-- ==== Sys2Proof/Word.lean ====
section
/-! DEFINITION. Word.lean: the bit-vector types of the block (00_scope.md rules R9 and R12).
Every quantity of the block is unsigned (rule R12). -/

namespace Sys2Proof

/-- A command word on the port cmd[31:0] (30_encoding.md rule R100), and the status word (10_state.md rule R44). -/
abbrev Word := BitVec 32

/-- One byte of `next` or `current` (20_memory.md rule R74). -/
abbrev Byte := BitVec 8

/-- A brightness bucket 0..7 (00_scope.md rule R9, NBUCKETS = 8). -/
abbrev Bucket := BitVec 3

/-- A gamma value 0..2047 (00_scope.md rule R9, GAMMA_W = 11). -/
abbrev GammaValue := BitVec 11

/-- A bit-plane 0..10, plane 0 least significant (00_scope.md rule R9, NPLANES = 11).
The spec's register `p` has 4 bits and holds only 0..10 (10_state.md rule R42). -/
abbrev Plane := Fin 11

end Sys2Proof
end

