-- ==== Sys2Proof/Config.lean ====
section
/-! DEFINITION. Config.lean: what is fixed when the block is elaborated (00_scope.md rule R10), what the
outside world can do to it (10_state.md rule R32), and the free values: constants without a body, so that
nothing can be proved about the value they hold. -/

namespace Sys2Proof

/-- The three channels of a pixel, in the byte order of a pixel (00_scope.md rule R15). -/
inductive Channel
  | red
  | green
  | blue
deriving DecidableEq, Repr

/-- ch = 0 for red, 1 for green and 2 for blue (00_scope.md rule R15). -/
def Channel.index : Channel → Fin 3
  | .red => 0
  | .green => 1
  | .blue => 2

/-- The list `f i, f (i+1), …` of `n` entries. -/
def tabulateFrom {α : Type} (f : Nat → α) : Nat → Nat → List α
  | 0, _ => []
  | n + 1, i => f i :: tabulateFrom f n (i + 1)

theorem tabulateFrom_length {α : Type} (f : Nat → α) (n i : Nat) : (tabulateFrom f n i).length = n := by
  induction n generalizing i with
  | zero => rfl
  | succ n ih => simp [tabulateFrom, ih]

theorem tabulateFrom_getElem {α : Type} (f : Nat → α) (n i k : Nat) (h : k < (tabulateFrom f n i).length) :
    (tabulateFrom f n i)[k] = f (i + k) := by
  induction n generalizing i k with
  | zero => simp [tabulateFrom] at h
  | succ n ih =>
    cases k with
    | zero => simp [tabulateFrom]
    | succ k => simp [tabulateFrom, ih]; congr 1; omega

/-- A table of `n` entries, entry `i` being `f i`. -/
def tabulate {α : Type} (n : Nat) (f : Nat → α) : Vector α n :=
  ⟨(tabulateFrom f n 0).toArray, by simp [tabulateFrom_length]⟩

@[simp] theorem tabulate_getElem {α : Type} (n : Nat) (f : Nat → α) (i : Nat) (h : i < n) :
    (tabulate n f)[i] = f i := by
  simp [tabulate, tabulateFrom_getElem]

/-- The elaboration parameters of 00_scope.md rule R10, under the spec's names, before they are checked.
`DELAY_LUT` entries are counts of clk_r cycles (41_tables.md rule R155), so they are naturals, and
`Params.delayFits` bounds them by DELAY_W. N and R are computed from W and H (`Params.N`, `Params.R`).
F_R, F_I and F_MIN are rates of the environment, and no step of the machine reads them
(70_reset_and_hazards.md rule R283). -/
structure Params where
  W : Nat
  H : Nat
  P : Nat
  DELAY_W : Nat
  GAMMA_LUT : Vector (Vector GammaValue 256) 3
  DELAY_LUT : Vector (Vector Nat 11) 8
  RESET_BUCKET : Bucket
  F_R : Rat
  F_I : Rat
  F_MIN : Rat
deriving DecidableEq, Repr

/-- The frame byte length N = 3·W·H (00_scope.md rule R10). -/
def Params.N (c : Params) : Nat := 3 * c.W * c.H

/-- The scan rows per plane R = H/2 (00_scope.md rule R10). -/
def Params.R (c : Params) : Nat := c.H / 2

/-- One event at the block's inputs (10_state.md rule R32). A rising edge of clk_i comes with the values of
cmd_valid and cmd at that edge, and a change of rst_n with its new level. Edges of the two clocks
interleave in any order (00_scope.md rule R14). -/
inductive Input
  | clk_i (cmd_valid : Bool) (cmd : Word)
  | clk_r
  | rst_n (level : Bool)
deriving DecidableEq, Repr, Inhabited

/-- FREE VALUE (notes/assumptions/2.md): the input the environment gives when the state lists none. The order of edges and
the commands the host presents are open (00_scope.md rule R14). -/
opaque Config.freeInput : Nat → Input

/-- FREE VALUE (notes/assumptions/3.md): the chip's gamma table, whose contents are OPEN (00_scope.md rule R10). -/
opaque Config.freeGamma : Nat → Nat → GammaValue

/-- FREE VALUE (notes/assumptions/3.md): the chip's delay table, whose contents are OPEN (00_scope.md rule R10). -/
opaque Config.freeDelay : Nat → Nat → BitVec 32

/-- FREE VALUE (notes/assumptions/3.md): the chip's F_R, F_I and F_MIN, which are OPEN (00_scope.md rule R10). -/
opaque Config.freeRate : Nat → Rat

end Sys2Proof
end

