-- ==== Sys2Proof/Syntax.lean ====
section
/-! DEFINITION. Syntax.lean: the commands of the producer port (30_encoding.md rule R107, spec/opcode_table.json)
and the assembler lines that spell command words (30_encoding.md rules R116 to R118). -/

namespace Sys2Proof

/-- A command of the opcode map, one constructor per row (30_encoding.md rule R107). Each operand has exactly
the width of its field (rules R101 to R106), so no term of this type is ill-formed. A word with a reserved
operand bit set belongs to no row, and `decode` rejects it by name (rule R108). A reserved opcode's 28
operand bits are kept, and no meaning examines them (rule R109). -/
inductive Instr
  | nop
  | writeByte (val : Byte)
  | submit (len : BitVec 24)
  | setBucket (bkt : Bucket)
  | clearStatus
  | reserved5 (operand : BitVec 28)
  | reserved6 (operand : BitVec 28)
  | reserved7 (operand : BitVec 28)
  | reserved8 (operand : BitVec 28)
  | reserved9 (operand : BitVec 28)
  | reservedA (operand : BitVec 28)
  | reservedB (operand : BitVec 28)
  | reservedC (operand : BitVec 28)
  | reservedD (operand : BitVec 28)
  | reservedE (operand : BitVec 28)
  | reservedF (operand : BitVec 28)
deriving DecidableEq, Repr

/-- One line of a command stream as it is written (30_encoding.md rules R116 to R118). Operands are numbers as
written and may be out of range, which `AsmLine.wf` checks. -/
inductive AsmLine
  | nop
  | wrb (val : Nat)
  | submit (len : Nat)
  | setb (bkt : Nat)
  | clrst
  | word (x : Nat)
  | frame (bytes : List Nat)
  | fill (val count : Nat)
deriving DecidableEq, Repr

end Sys2Proof
end

