-- ==== Sys2Proof/WellFormed.lean ====
section
/-! DEFINITION. WellFormed.lean: the checks made before the machine runs. A configuration outside 00_scope.md rule
R10, or with tables that break 41_tables.md rules R152, R153, R156 or R157, is refused at elaboration
(00_scope.md rule R11). An assembler operand out of range is an assembly error (30_encoding.md rules R116, R117).
`Instr` needs no check: its operands have the width of their fields. -/

namespace Sys2Proof

/-- W is in 1..4096 (00_scope.md rule R10). -/
def Params.wInRange (c : Params) : Bool := decide (1 ≤ c.W ∧ c.W ≤ 4096)

/-- H is even (00_scope.md rule R10). -/
def Params.hEven (c : Params) : Bool := decide (c.H % 2 = 0)

/-- H is in 2..64 (00_scope.md rule R10). -/
def Params.hInRange (c : Params) : Bool := decide (2 ≤ c.H ∧ c.H ≤ 64)

/-- P ≥ 1 (00_scope.md rule R10). -/
def Params.pPositive (c : Params) : Bool := decide (1 ≤ c.P)

/-- DELAY_W is in 1..32 (00_scope.md rule R10). -/
def Params.delayWInRange (c : Params) : Bool := decide (1 ≤ c.DELAY_W ∧ c.DELAY_W ≤ 32)

/-- F_R, F_I and F_MIN are positive (00_scope.md rule R10). -/
def Params.ratesPositive (c : Params) : Bool := decide (0 < c.F_R ∧ 0 < c.F_I ∧ 0 < c.F_MIN)

/-- Gamma constraint 1 (41_tables.md rule R152): every channel's table is non-decreasing. -/
def Params.gammaMonotone (c : Params) : Bool :=
  decide (∀ ch : Fin 3, ∀ v : Fin 255,
    (c.GAMMA_LUT[ch.val][v.val]).toNat ≤ (c.GAMMA_LUT[ch.val][v.val + 1]).toNat)

/-- Gamma constraint 2 (41_tables.md rule R153): zero maps to zero in every channel. -/
def Params.gammaZero (c : Params) : Bool := decide (∀ ch : Fin 3, c.GAMMA_LUT[ch.val][0] = 0)

/-- Every delay entry fits in DELAY_W bits (00_scope.md rule R10, 41_tables.md rule R155). -/
def Params.delayFits (c : Params) : Bool :=
  decide (∀ b : Fin 8, ∀ p : Fin 11, c.DELAY_LUT[b.val][p.val] < 2 ^ c.DELAY_W)

/-- Delay constraint 1 (41_tables.md rule R156): non-decreasing in the plane, ties allowed (90_conflicts.md C2). -/
def Params.delayPlaneMonotone (c : Params) : Bool :=
  decide (∀ b : Fin 8, ∀ p : Fin 10, c.DELAY_LUT[b.val][p.val] ≤ c.DELAY_LUT[b.val][p.val + 1])

/-- Delay constraint 2 (41_tables.md rule R157): non-decreasing in the bucket. -/
def Params.delayBucketMonotone (c : Params) : Bool :=
  decide (∀ p : Fin 11, ∀ b : Fin 7, c.DELAY_LUT[b.val][p.val] ≤ c.DELAY_LUT[b.val + 1][p.val])

/-- The parameters are a configuration of this block (00_scope.md rule R11). RESET_BUCKET is in 0..7 by its type,
and gamma entries are at most 2047 by theirs. -/
def Params.wf (c : Params) : Bool :=
  c.wInRange && c.hEven && c.hInRange && c.pPositive && c.delayWInRange && c.ratesPositive
    && c.gammaMonotone && c.gammaZero && c.delayFits && c.delayPlaneMonotone && c.delayBucketMonotone

/-- A configuration of the block: parameters together with the proof that they pass every check, so that
no state of the machine has a configuration that 00_scope.md rule R11 refuses. -/
structure Config extends Params where
  ok : toParams.wf = true
deriving DecidableEq, Repr

/-- Elaboration: parameters that fail a check are refused and get no meaning (00_scope.md rule R11). -/
def Config.elaborate (c : Params) : Option Config :=
  if h : c.wf = true then some ⟨c, h⟩ else none

/-- A written operand is in its field's range, and `frame` has exactly N bytes (30_encoding.md rules R116, R117). -/
def AsmLine.wf (n : Nat) : AsmLine → Bool
  | .nop => true
  | .wrb val => decide (val ≤ 255)
  | .submit len => decide (len ≤ 0xFFFFFF)
  | .setb bkt => decide (bkt ≤ 7)
  | .clrst => true
  | .word x => decide (x < 2 ^ 32)
  | .frame bytes => decide (bytes.length = n) && bytes.all fun b => decide (b ≤ 255)
  | .fill val _ => decide (val ≤ 255)

/-! ## The configuration of the chip
The default geometry of 00_scope.md rule R10, with open tables. -/

/-- The greatest of `f 0, …, f n`. -/
def runningMax (f : Nat → Nat) : Nat → Nat
  | 0 => f 0
  | n + 1 => max (runningMax f n) (f (n + 1))

theorem runningMax_le_succ (f : Nat → Nat) (n : Nat) : runningMax f n ≤ runningMax f (n + 1) :=
  Nat.le_max_left _ _

theorem runningMax_lt {f : Nat → Nat} {m : Nat} (h : ∀ i, f i < m) (n : Nat) : runningMax f n < m := by
  induction n with
  | zero => exact h 0
  | succ n ih => exact Nat.max_lt.2 ⟨ih, h _⟩

theorem runningMax_mono {f g : Nat → Nat} (h : ∀ i, f i ≤ g i) (n : Nat) : runningMax f n ≤ runningMax g n := by
  induction n with
  | zero => exact h 0
  | succ n ih => exact max_le_max ih (h _)

/-- The chip's gamma table: the free table made to meet rules R152 and R153 by taking running maxima from zero.
A table that meets them already is left as it is, so this is any legal table (notes/assumptions/3.md). -/
def Config.chipGamma (ch v : Nat) : GammaValue :=
  BitVec.ofNat 11 (runningMax (fun u => if u = 0 then 0 else (Config.freeGamma ch u).toNat) v)

/-- The chip's delay table: the free table made to meet rules R156 and R157 by running maxima over planes and
buckets. A table that meets them already is left as it is (notes/assumptions/3.md). -/
def Config.chipDelay (b p : Nat) : Nat :=
  runningMax (fun b' => runningMax (fun p' => (Config.freeDelay b' p').toNat) p) b

/-- A free positive rate. -/
def Config.chipRate (i : Nat) : Rat := if 0 < Config.freeRate i then Config.freeRate i else 1

/-- The chip's parameters: the defaults of 00_scope.md rule R10 and, where it says OPEN, any legal value. -/
def Config.chipParams : Params where
  W := 96
  H := 48
  P := 1
  DELAY_W := 32
  GAMMA_LUT := tabulate 3 fun ch => tabulate 256 fun v => Config.chipGamma ch v
  DELAY_LUT := tabulate 8 fun b => tabulate 11 fun p => Config.chipDelay b p
  RESET_BUCKET := 7
  F_R := Config.chipRate 0
  F_I := Config.chipRate 1
  F_MIN := Config.chipRate 2

theorem Config.chipGamma_toNat (ch v : Nat) : (Config.chipGamma ch v).toNat =
    runningMax (fun u => if u = 0 then 0 else (Config.freeGamma ch u).toNat) v := by
  have h := runningMax_lt (f := fun u => if u = 0 then 0 else (Config.freeGamma ch u).toNat) (m := 2 ^ 11)
    (fun i => by split <;> omega) v
  simp only [Config.chipGamma, BitVec.toNat_ofNat]
  exact Nat.mod_eq_of_lt h

theorem Config.chipRate_pos (i : Nat) : 0 < Config.chipRate i := by
  unfold Config.chipRate; split
  · assumption
  · decide

theorem Config.chipParams_wf : Config.chipParams.wf = true := by
  have hg : Config.chipParams.gammaMonotone = true := by
    simp only [Params.gammaMonotone, decide_eq_true_eq, Config.chipParams, tabulate_getElem,
      Config.chipGamma_toNat]
    exact fun ch v => runningMax_le_succ _ _
  have hz : Config.chipParams.gammaZero = true := by
    simp [Params.gammaZero, Config.chipParams, Config.chipGamma, runningMax]
  have hf : Config.chipParams.delayFits = true := by
    simp only [Params.delayFits, decide_eq_true_eq, Config.chipParams, tabulate_getElem]
    exact fun b p => runningMax_lt (fun b' => runningMax_lt (fun p' => (Config.freeDelay b' p').isLt) _) _
  have hp : Config.chipParams.delayPlaneMonotone = true := by
    simp only [Params.delayPlaneMonotone, decide_eq_true_eq, Config.chipParams, tabulate_getElem]
    exact fun b p => runningMax_mono (fun b' => runningMax_le_succ _ _) _
  have hb : Config.chipParams.delayBucketMonotone = true := by
    simp only [Params.delayBucketMonotone, decide_eq_true_eq, Config.chipParams, tabulate_getElem]
    exact fun p b => runningMax_le_succ _ _
  have hr : Config.chipParams.ratesPositive = true := by
    simp [Params.ratesPositive, Config.chipParams, Config.chipRate_pos]
  simp only [Params.wf, hg, hz, hf, hp, hb, hr]
  decide

/-- The configuration of the chip that `State.reset` is in. -/
def Config.chip : Config := ⟨Config.chipParams, Config.chipParams_wf⟩

end Sys2Proof
end

