-- ==== Sys2Proof/Decode.lean ====
section
/-! DEFINITION. Decode.lean: the command format, the opcode map, the decoder and the encoder, and the assembler
(30_encoding.md). -/

namespace Sys2Proof

/-! ## Fields (30_encoding.md rules R100 and R106) -/

/-- OP = cmd[31:28] (30_encoding.md rule R100). -/
def fieldOP (w : Word) : BitVec 4 := w.extractLsb' 28 4

/-- The operand field cmd[27:0] (30_encoding.md rule R100). -/
def fieldOperand (w : Word) : BitVec 28 := w.extractLsb' 0 28

/-- VAL = cmd[7:0] (30_encoding.md rules R102 and R106). -/
def fieldVAL (w : Word) : Byte := w.extractLsb' 0 8

/-- LEN = cmd[23:0] (30_encoding.md rules R103 and R106). -/
def fieldLEN (w : Word) : BitVec 24 := w.extractLsb' 0 24

/-- BKT = cmd[2:0] (30_encoding.md rules R104 and R106). -/
def fieldBKT (w : Word) : Bucket := w.extractLsb' 0 3

/-! ## The opcode map (30_encoding.md rule R107) -/

/-- One row of the opcode map: a word w is the command in a row when (w AND mask) = match. -/
structure OpcodeRow where
  mnemonic : String
  pattern : Word
  mask : Word
deriving DecidableEq, Repr

/-- The opcode map, as in spec/opcode_table.json (30_encoding.md rules R107 and R109). -/
def opcodeTable : List OpcodeRow :=
  [⟨"NOP", 0x00000000, 0xFFFFFFFF⟩,
   ⟨"WRITE_BYTE", 0x10000000, 0xFFFFFF00⟩,
   ⟨"SUBMIT", 0x20000000, 0xFF000000⟩,
   ⟨"SET_BUCKET", 0x30000000, 0xFFFFFFF8⟩,
   ⟨"CLEAR_STATUS", 0x40000000, 0xFFFFFFFF⟩,
   ⟨"RESERVED_5", 0x50000000, 0xF0000000⟩,
   ⟨"RESERVED_6", 0x60000000, 0xF0000000⟩,
   ⟨"RESERVED_7", 0x70000000, 0xF0000000⟩] ++
  [⟨"RESERVED_8", 0x80000000, 0xF0000000⟩,
   ⟨"RESERVED_9", 0x90000000, 0xF0000000⟩,
   ⟨"RESERVED_A", 0xA0000000, 0xF0000000⟩,
   ⟨"RESERVED_B", 0xB0000000, 0xF0000000⟩,
   ⟨"RESERVED_C", 0xC0000000, 0xF0000000⟩,
   ⟨"RESERVED_D", 0xD0000000, 0xF0000000⟩,
   ⟨"RESERVED_E", 0xE0000000, 0xF0000000⟩,
   ⟨"RESERVED_F", 0xF0000000, 0xF0000000⟩]

/-- The number of the instruction's row in `opcodeTable`. -/
def Instr.rowIndex : Instr → Fin 16
  | .nop => 0
  | .writeByte _ => 1
  | .submit _ => 2
  | .setBucket _ => 3
  | .clearStatus => 4
  | .reserved5 _ => 5
  | .reserved6 _ => 6
  | .reserved7 _ => 7
  | .reserved8 _ => 8
  | .reserved9 _ => 9
  | .reservedA _ => 10
  | .reservedB _ => 11
  | .reservedC _ => 12
  | .reservedD _ => 13
  | .reservedE _ => 14
  | .reservedF _ => 15

/-- The instruction's row of the opcode map. -/
def Instr.row (i : Instr) : OpcodeRow := opcodeTable[i.rowIndex]

/-! ## The decoder (30_encoding.md rule R113) -/

/-- Why a word is no row of the opcode map. -/
inductive Reject
  /-- A defined opcode 0x0..0x4 with a reserved operand bit set (30_encoding.md rule R108). The machine does not
  stop on it: it raises ERR_ARG (43_commands.md rule R215). -/
  | badArg
deriving DecidableEq, Repr

/-- The decoder of 30_encoding.md rule R113, total on the 2^32 words. Its outcome RESERVED is the instruction of
the word's own row RESERVED_5..RESERVED_F, and its outcome BADARG is the rejection `badArg`. -/
def decode (w : Word) : Except Reject Instr :=
  let op := fieldOP w
  if op = 0x0 then
    if w.extractLsb' 0 28 ≠ 0 then .error .badArg else .ok .nop
  else if op = 0x1 then
    if w.extractLsb' 8 20 ≠ 0 then .error .badArg else .ok (.writeByte (fieldVAL w))
  else if op = 0x2 then
    if w.extractLsb' 24 4 ≠ 0 then .error .badArg else .ok (.submit (fieldLEN w))
  else if op = 0x3 then
    if w.extractLsb' 3 25 ≠ 0 then .error .badArg else .ok (.setBucket (fieldBKT w))
  else if op = 0x4 then
    if w.extractLsb' 0 28 ≠ 0 then .error .badArg else .ok .clearStatus
  else if op = 0x5 then .ok (.reserved5 (fieldOperand w))
  else if op = 0x6 then .ok (.reserved6 (fieldOperand w))
  else if op = 0x7 then .ok (.reserved7 (fieldOperand w))
  else if op = 0x8 then .ok (.reserved8 (fieldOperand w))
  else if op = 0x9 then .ok (.reserved9 (fieldOperand w))
  else if op = 0xA then .ok (.reservedA (fieldOperand w))
  else if op = 0xB then .ok (.reservedB (fieldOperand w))
  else if op = 0xC then .ok (.reservedC (fieldOperand w))
  else if op = 0xD then .ok (.reservedD (fieldOperand w))
  else if op = 0xE then .ok (.reservedE (fieldOperand w))
  else .ok (.reservedF (fieldOperand w))

/-! ## The encoder (30_encoding.md rules R101 to R105 and R109) -/

/-- The word of an instruction (every command is one word, rule R100): its opcode, its reserved bits 0 and its operand, from the high bits down. -/
def encode : Instr → Word
  | .nop => 0x0#4 ++ 0#28
  | .writeByte val => 0x1#4 ++ 0#20 ++ val
  | .submit len => 0x2#4 ++ 0#4 ++ len
  | .setBucket bkt => 0x3#4 ++ 0#25 ++ bkt
  | .clearStatus => 0x4#4 ++ 0#28
  | .reserved5 operand => 0x5#4 ++ operand
  | .reserved6 operand => 0x6#4 ++ operand
  | .reserved7 operand => 0x7#4 ++ operand
  | .reserved8 operand => 0x8#4 ++ operand
  | .reserved9 operand => 0x9#4 ++ operand
  | .reservedA operand => 0xA#4 ++ operand
  | .reservedB operand => 0xB#4 ++ operand
  | .reservedC operand => 0xC#4 ++ operand
  | .reservedD operand => 0xD#4 ++ operand
  | .reservedE operand => 0xE#4 ++ operand
  | .reservedF operand => 0xF#4 ++ operand

/-! ## The assembler (30_encoding.md rules R116 to R118) -/

/-- The words of a line whose operands are in range. -/
def AsmLine.words : AsmLine → List Word
  | .nop => [0x00000000]
  | .wrb val => [0x10000000 ||| BitVec.ofNat 32 val]
  | .submit len => [0x20000000 ||| BitVec.ofNat 32 len]
  | .setb bkt => [0x30000000 ||| BitVec.ofNat 32 bkt]
  | .clrst => [0x40000000]
  | .word x => [BitVec.ofNat 32 x]
  | .frame bytes =>
    (0x20000000 ||| BitVec.ofNat 32 bytes.length) :: bytes.map fun b => 0x10000000 ||| BitVec.ofNat 32 b
  | .fill val count => List.replicate count (0x10000000 ||| BitVec.ofNat 32 val)

/-- Assemble one line for a frame length n. An operand out of its range is an assembly error, `none`
(30_encoding.md rules R116 and R117). -/
def assemble (n : Nat) (line : AsmLine) : Option (List Word) :=
  if line.wf n then some line.words else none

/-- What the decoder reads from the instruction whose bits are w, numbered as spec/opcode_table.json numbers them.
Every row has 32 bits, and every bit at or above nbits is 0. The decoder refuses a word of more than 32 bits. -/
def decodeTableWord (nbits w : Nat) : Option Instr :=
  if nbits ≤ 32 then
    match decode (BitVec.ofNat 32 (w % 2 ^ nbits)) with
    | .ok i => some i
    | .error _ => none
  else none

end Sys2Proof
end

