-- ==== Sys2Proof/Machine/State.lean ====
section
/-! DEFINITION. Machine/State.lean: every piece of state the spec gives the block (10_state.md, whose rule R56 is
the table of widths and reset values), under the spec's own names, as plain data. One-bit registers are `Bool`. -/

namespace Sys2Proof.Machine

/-- A byte memory: the listed (offset, byte) pairs in canonical form (`Memory.wf`). Both `next` and `current`
have one (20_memory.md rule R70). -/
abbrev Memory := List Host.Cell

/-- What an offset that is not listed reads as. The spec leaves the contents of `next` and `current` open
until they are written, and lets a model pick 0 (93_implementation_defined.md; notes/assumptions/1.md). -/
def Memory.unlisted : Byte := 0

/-- The offsets of the list rise strictly from `lo` on, and no entry equals what an unlisted offset reads as. -/
def Memory.wfFrom (lo : Nat) : Memory → Bool
  | [] => true
  | (a, v) :: m => decide (lo ≤ a) && decide (v ≠ Memory.unlisted) && Memory.wfFrom (a + 1) m

/-- The canonical form of a memory: equal memories are equal lists. -/
def Memory.wf (m : Memory) : Bool := Memory.wfFrom 0 m

/-- Every listed offset is below n (20_memory.md rule R71). -/
def Memory.below (n : Nat) (m : Memory) : Bool := m.all fun c => decide (c.1 < n)

/-- The states of the render FSM (10_state.md rule R40). -/
inductive RenderState
  | init
  | idle
  | copy
  | scan
deriving DecidableEq, Repr

/-- Why the machine stops. -/
inductive Fault
  /-- An access to `next` or `current` at an offset N or above, which does not exist. The block never forms such
  an offset (20_memory.md rule R71): only a state that no run reaches, with `cursor` or `k` at N or above, raises
  it, in WRITE_BYTE, COPY or INIT. Safe: the machine stops where the spec has no case. -/
  | offsetOutOfRange
deriving DecidableEq, Repr

/-- Why an instruction has no meaning. -/
inductive Refusal
  /-- The instruction has no meaning yet. Raised by an arm of `exec` only, and by none at present. Safe. -/
  | notModelled (mnemonic : String)
deriving DecidableEq, Repr

/-- The state of the block. -/
structure State where
  /-- The elaborated configuration: it holds the ROMs GAMMA_LUT and DELAY_LUT, which nothing writes (rule R51). -/
  cfg : Config
  -- Ingest-domain registers, clk_i (rules R34 to R39).
  /-- Offset in `next` of the next byte write, 0..N−1 (rule R34). -/
  cursor : BitVec 20
  /-- Data bytes still to be dropped after a rejected SUBMIT (rule R35). -/
  discard : BitVec 24
  /-- Sticky error flag ERR_CMD (rule R36). -/
  err_cmd : Bool
  /-- Sticky error flag ERR_ARG (rule R36). -/
  err_arg : Bool
  /-- Sticky error flag ERR_LEN (rule R36). -/
  err_len : Bool
  /-- The bucket last accepted by SET_BUCKET (rule R37). -/
  bucket_i : Bucket
  /-- A publish has been made and not yet launched (rule R38). -/
  pub_dirty : Bool
  /-- Publish request toggle (rule R38). -/
  pub_req : Bool
  /-- First flop that synchronises `pub_ack` into clk_i (rule R38). -/
  pack_s1 : Bool
  /-- Second flop that synchronises `pub_ack` into clk_i (rule R38). -/
  pack_s2 : Bool
  /-- A SET_BUCKET has been accepted and not yet launched (rule R39). -/
  bkt_dirty : Bool
  /-- The bucket in transfer (rule R39). -/
  bucket_x : Bucket
  /-- Bucket request toggle (rule R39). -/
  bkt_req : Bool
  /-- First flop that synchronises `bkt_ack` into clk_i (rule R39). -/
  back_s1 : Bool
  /-- Second flop that synchronises `bkt_ack` into clk_i (rule R39). -/
  back_s2 : Bool
  -- Render-domain registers, clk_r (rules R40 to R48).
  /-- Render FSM state (rule R40). -/
  st : RenderState
  /-- Byte index of INIT and COPY (rule R41). -/
  k : BitVec 20
  /-- Plane of the scan position (rule R42). -/
  p : Plane
  /-- Scan row of the scan position (rule R42). -/
  r : BitVec 5
  /-- Slot cycle counter of the scan position (rule R42). It never wraps, so it is a count (notes/assumptions/6.md). -/
  j : Nat
  /-- Drives the ADDR pins (rule R43). -/
  addr_reg : BitVec 5
  /-- The bucket the current pass uses (rule R45). -/
  pass_bucket : Bucket
  /-- The render domain's copy of the bucket (rule R46). -/
  bucket_r : Bucket
  /-- First flop that synchronises `pub_req` into clk_r (rule R47). -/
  preq_s1 : Bool
  /-- Second flop that synchronises `pub_req` into clk_r (rule R47). -/
  preq_s2 : Bool
  /-- Publish acknowledge toggle (rule R47). -/
  pub_ack : Bool
  /-- A publish seen and not yet consumed (rule R47). -/
  pend_r : Bool
  /-- First flop that synchronises `bkt_req` into clk_r (rule R48). -/
  breq_s1 : Bool
  /-- Second flop that synchronises `bkt_req` into clk_r (rule R48). -/
  breq_s2 : Bool
  /-- Bucket acknowledge toggle (rule R48). -/
  bkt_ack : Bool
  -- Memories (rules R49 and R50).
  /-- The frame buffer being filled (rule R49). -/
  next : Memory
  /-- The frame buffer being scanned out (rule R50). -/
  current : Memory
  -- Reset (70_reset_and_hazards.md rule R271).
  /-- The level of the reset input. -/
  rst_n : Bool
  /-- First flop of clk_i's reset synchroniser: 0 in reset. -/
  rsync_i1 : Bool
  /-- Second flop of clk_i's reset synchroniser: clk_i is in reset while it is 0. -/
  rsync_i2 : Bool
  /-- First flop of clk_r's reset synchroniser: 0 in reset. -/
  rsync_r1 : Bool
  /-- Second flop of clk_r's reset synchroniser: clk_r is in reset while it is 0. -/
  rsync_r2 : Bool
  -- The environment, the model's own (notes/assumptions/2.md).
  /-- The inputs to come, the next one first: edges of both clocks in the order they interleave (00_scope.md rule
  R14), each clk_i edge with the command port's values, and changes of rst_n. -/
  inputs : List Input
  /-- The number of inputs drawn from `Config.freeInput` so far. -/
  tick : Nat
deriving DecidableEq, Repr

/-- An outcome of this machine. -/
abbrev Result := Host.Outcome State Fault Refusal

/-- The block with configuration c right after reset: the table of 10_state.md rule R56, with both domains out of
reset and about to take their first step (95_test_vectors.md V56; notes/assumptions/4.md). The memories list nothing
(notes/assumptions/1.md). -/
def State.resetOf (c : Config) : State where
  cfg := c
  cursor := 0
  discard := 0
  err_cmd := false
  err_arg := false
  err_len := false
  bucket_i := c.RESET_BUCKET
  pub_dirty := false
  pub_req := false
  pack_s1 := false
  pack_s2 := false
  bkt_dirty := false
  bucket_x := c.RESET_BUCKET
  bkt_req := false
  back_s1 := false
  back_s2 := false
  st := .init
  k := 0
  p := 0
  r := 0
  j := 0
  addr_reg := 0
  pass_bucket := c.RESET_BUCKET
  bucket_r := c.RESET_BUCKET
  preq_s1 := false
  preq_s2 := false
  pub_ack := false
  pend_r := false
  breq_s1 := false
  breq_s2 := false
  bkt_ack := false
  next := []
  current := []
  rst_n := true
  rsync_i1 := true
  rsync_i2 := true
  rsync_r1 := true
  rsync_r2 := true
  inputs := []
  tick := 0

/-- The chip right after reset (10_state.md rule R56, in the configuration `Config.chip`). -/
def State.reset : State := State.resetOf Config.chip

end Sys2Proof.Machine
end

