-- ==== Sys2Proof/Machine/Ops.lean ====
section
/-! DEFINITION. Machine/Ops.lean: the primitives of 00_scope.md rule R13: MemRead, MemWrite and raise, and the bounds
that every access to `next` and `current` has (20_memory.md rule R71).

The block has no trap: an error saves nothing, redirects nothing and only sets a sticky flag, so taking an
exception is `raise`, and the only way back is `clearErrors` (60_exceptions.md rules R243, R248 and R249). -/

namespace Sys2Proof.Machine

/-- MemRead: the byte at offset a (00_scope.md rule R13). -/
def Memory.read : Memory → Nat → Byte
  | [], _ => Memory.unlisted
  | (b, v) :: m, a => if a = b then v else Memory.read m a

/-- MemWrite: the memory with byte v at offset a (00_scope.md rule R13), in canonical form again. -/
def Memory.write : Memory → Nat → Byte → Memory
  | [], a, v => if v = Memory.unlisted then [] else [(a, v)]
  | (b, w) :: m, a, v =>
    if a < b then
      if v = Memory.unlisted then (b, w) :: m else (a, v) :: (b, w) :: m
    else if a = b then
      if v = Memory.unlisted then m else (a, v) :: m
    else (b, w) :: Memory.write m a v

/-- MemWrite(next, a, 1, v). An offset N or above does not exist (20_memory.md rule R71). -/
def writeNext (a : Nat) (v : Byte) (s : State) : Result :=
  if a < s.cfg.N then .next { s with next := s.next.write a v } else .fault .offsetOutOfRange

/-- MemWrite(current, a, 1, v). An offset N or above does not exist (20_memory.md rule R71). -/
def writeCurrent (a : Nat) (v : Byte) (s : State) : Result :=
  if a < s.cfg.N then .next { s with current := s.current.write a v } else .fault .offsetOutOfRange

/-- Go on from a next state; a fault or a refusal stays. -/
def andThen (x : Result) (f : State → Result) : Result :=
  match x with
  | .next s => f s
  | .fault e => .fault e
  | .refused e => .refused e

/-- The three error causes (60_exceptions.md rules R240, R241 and R242). -/
inductive ErrorCause
  | cmd
  | arg
  | len
deriving DecidableEq, Repr

/-- raise ERR_x: sets the sticky flag of the cause, and does nothing else (00_scope.md rule R13,
60_exceptions.md rules R243 and R248). -/
def raise : ErrorCause → State → State
  | .cmd, s => { s with err_cmd := true }
  | .arg, s => { s with err_arg := true }
  | .len, s => { s with err_len := true }

/-- The only action on errors clears all three flags (60_exceptions.md rule R249). -/
def clearErrors (s : State) : State := { s with err_cmd := false, err_arg := false, err_len := false }

end Sys2Proof.Machine
end

