-- ==== Sys2Proof/Machine/Operands.lean ====
section
/-! DEFINITION. Machine/Operands.lean: the operand forms of the commands. VAL, LEN and BKT are immediate fields taken
as they stand (30_encoding.md rule R106, `fieldVAL`, `fieldLEN`, `fieldBKT`). The only address is the implicit
cursor, used with post-increment modulo N (43_commands.md rule R233). -/

namespace Sys2Proof.Machine

/-- The effective offset of a store is `cursor` (43_commands.md rule R233). -/
def storeOffset (s : State) : Nat := s.cursor.toNat

/-- The cursor is at the last byte of the frame, N − 1 (43_commands.md rule R212). -/
def cursorAtEnd (s : State) : Bool := decide (s.cursor.toNat = s.cfg.N - 1)

/-- The cursor after a store: +1, with N − 1 + 1 replaced by 0 (43_commands.md rules R212 and R239). -/
def cursorAfterStore (s : State) : BitVec 20 := if cursorAtEnd s then 0 else s.cursor + 1

/-- LEN = N, a 24-bit unsigned equality (43_commands.md rules R218 and R239). -/
def lenIsFrame (s : State) (len : BitVec 24) : Bool := decide (len.toNat = s.cfg.N)

end Sys2Proof.Machine
end

