-- ==== Sys2Proof/Machine/Ingest.lean ====
section
/-! DEFINITION. Machine/Ingest.lean: part 3 of the DOM_I step: what each command, and a rejected word, does
(43_commands.md, whose rule R238 is the summary). Every meaning takes the state after parts 1 and 2, which have
written nothing that a meaning reads, so it reads what stood before the edge. Its own write of `pub_dirty` or
`bkt_dirty` comes last and takes effect (rule R211). -/

namespace Sys2Proof.Machine

/-- The store of WRITE_BYTE with no discard: the byte at the cursor, then the post-increment. The store at offset
N − 1 wraps the cursor and publishes (43_commands.md rules R212 and R213). -/
def storeByte (val : Byte) (s : State) : Result :=
  andThen (writeNext (storeOffset s) val s) fun t =>
    .next { t with cursor := cursorAfterStore s, pub_dirty := if cursorAtEnd s then true else s.pub_dirty }

/-- NOP: no effect (43_commands.md rule R210). -/
def execNop (s : State) : Result := .next s

/-- WRITE_BYTE: while `discard` ≠ 0 the byte is only counted, otherwise it is stored at the cursor
(43_commands.md rules R212, R213 and R214). -/
def execWriteByte (val : Byte) (s : State) : Result :=
  if s.discard ≠ 0 then .next { s with discard := s.discard - 1 } else storeByte val s

/-- SUBMIT: the header of a frame of LEN bytes. LEN = N sets the cursor to 0 and cancels a discard. Any other LEN
raises ERR_LEN, and the LEN data bytes will be dropped (43_commands.md rules R218 and R219). -/
def execSubmit (len : BitVec 24) (s : State) : Result :=
  if lenIsFrame s len then .next { s with cursor := 0, discard := 0 }
  else .next (raise .len { s with discard := len })

/-- SET_BUCKET: the bucket is accepted and waits for its launch (43_commands.md rules R224 and R225). -/
def execSetBucket (bkt : Bucket) (s : State) : Result := .next { s with bucket_i := bkt, bkt_dirty := true }

/-- CLEAR_STATUS: clears the three error flags (43_commands.md rule R232). -/
def execClearStatus (s : State) : Result := .next (clearErrors s)

/-- A rejected word: raises ERR_ARG and does nothing else (43_commands.md rule R215). -/
def execBadArg (s : State) : Result := .next (raise .arg s)

/-- A reserved opcode raises ERR_CMD and does nothing else (43_commands.md rule R234). -/
def reservedOpcode (s : State) : Result := .next (raise .cmd s)

/-- OP = 0x5: reserved, its operand is not examined (43_commands.md rule R234). -/
def execReserved5 (_operand : BitVec 28) (s : State) : Result := reservedOpcode s

/-- OP = 0x6: reserved, its operand is not examined (43_commands.md rule R234). -/
def execReserved6 (_operand : BitVec 28) (s : State) : Result := reservedOpcode s

/-- OP = 0x7: reserved, its operand is not examined (43_commands.md rule R234). -/
def execReserved7 (_operand : BitVec 28) (s : State) : Result := reservedOpcode s

/-- OP = 0x8: reserved, its operand is not examined (43_commands.md rule R234). -/
def execReserved8 (_operand : BitVec 28) (s : State) : Result := reservedOpcode s

/-- OP = 0x9: reserved, its operand is not examined (43_commands.md rule R234). -/
def execReserved9 (_operand : BitVec 28) (s : State) : Result := reservedOpcode s

/-- OP = 0xA: reserved, its operand is not examined (43_commands.md rule R234). -/
def execReservedA (_operand : BitVec 28) (s : State) : Result := reservedOpcode s

/-- OP = 0xB: reserved, its operand is not examined (43_commands.md rule R234). -/
def execReservedB (_operand : BitVec 28) (s : State) : Result := reservedOpcode s

/-- OP = 0xC: reserved, its operand is not examined (43_commands.md rule R234). -/
def execReservedC (_operand : BitVec 28) (s : State) : Result := reservedOpcode s

/-- OP = 0xD: reserved, its operand is not examined (43_commands.md rule R234). -/
def execReservedD (_operand : BitVec 28) (s : State) : Result := reservedOpcode s

/-- OP = 0xE: reserved, its operand is not examined (43_commands.md rule R234). -/
def execReservedE (_operand : BitVec 28) (s : State) : Result := reservedOpcode s

/-- OP = 0xF: reserved, its operand is not examined (43_commands.md rule R234). -/
def execReservedF (_operand : BitVec 28) (s : State) : Result := reservedOpcode s

end Sys2Proof.Machine
end

