-- ==== Sys2Proof/Machine/Dispatch.lean ====
section
/-! DEFINITION. Machine/Dispatch.lean: the meaning of each command, one arm per constructor of Instr. -/

namespace Sys2Proof.Machine

def exec (i : Instr) (s : State) : Host.Outcome State Fault Refusal :=
  match i with
  | .nop => Sys2Proof.Machine.execNop s
  | .writeByte val => Sys2Proof.Machine.execWriteByte val s
  | .submit len => Sys2Proof.Machine.execSubmit len s
  | .setBucket bkt => Sys2Proof.Machine.execSetBucket bkt s
  | .clearStatus => Sys2Proof.Machine.execClearStatus s
  | .reserved5 operand => Sys2Proof.Machine.execReserved5 operand s
  | .reserved6 operand => Sys2Proof.Machine.execReserved6 operand s
  | .reserved7 operand => Sys2Proof.Machine.execReserved7 operand s
  | .reserved8 operand => Sys2Proof.Machine.execReserved8 operand s
  | .reserved9 operand => Sys2Proof.Machine.execReserved9 operand s
  | .reservedA operand => Sys2Proof.Machine.execReservedA operand s
  | .reservedB operand => Sys2Proof.Machine.execReservedB operand s
  | .reservedC operand => Sys2Proof.Machine.execReservedC operand s
  | .reservedD operand => Sys2Proof.Machine.execReservedD operand s
  | .reservedE operand => Sys2Proof.Machine.execReservedE operand s
  | .reservedF operand => Sys2Proof.Machine.execReservedF operand s

end Sys2Proof.Machine
end

