-- ==== Sys2Proof/Machine/Handshake.lean ====
section
/-! DEFINITION. Machine/Handshake.lean: the two request/acknowledge handshakes between the clock domains, flop by flop
(43_commands.md rules R220, R221, R226, R228 and R229; 40_frame_store.md rules R130 and R131).

The parts of one step all read the state before the edge, and their writes take effect together (00_scope.md rule
R13). So every part takes that state as `pre`, reads nothing else, and writes its registers into `s`. -/

namespace Sys2Proof.Machine

/-! ## clk_i: parts 1 and 2 of the DOM_I step (43_commands.md rule R211) -/

/-- Publish acknowledge synchroniser (43_commands.md rule R221). -/
def pubAckSync (pre s : State) : State := { s with pack_s1 := pre.pub_ack, pack_s2 := pre.pack_s1 }

/-- Bucket acknowledge synchroniser (43_commands.md rule R229). -/
def bktAckSync (pre s : State) : State := { s with back_s1 := pre.bkt_ack, back_s2 := pre.back_s1 }

/-- A publish is launched: one is waiting and no transfer is outstanding (43_commands.md rule R220). -/
def pubLaunches (pre : State) : Bool := pre.pub_dirty && pre.pack_s2 == pre.pub_req

/-- Publish launch (43_commands.md rule R220). -/
def pubLaunch (pre s : State) : State :=
  { s with
    pub_req := if pubLaunches pre then !pre.pub_req else s.pub_req
    pub_dirty := if pubLaunches pre then false else s.pub_dirty }

/-- A bucket is launched: one is waiting and no transfer is outstanding (43_commands.md rule R226). -/
def bktLaunches (pre : State) : Bool := pre.bkt_dirty && pre.back_s2 == pre.bkt_req

/-- Bucket launch (43_commands.md rule R226). -/
def bktLaunch (pre s : State) : State :=
  { s with
    bucket_x := if bktLaunches pre then pre.bucket_i else s.bucket_x
    bkt_req := if bktLaunches pre then !pre.bkt_req else s.bkt_req
    bkt_dirty := if bktLaunches pre then false else s.bkt_dirty }

/-- Parts 1 and 2 of the DOM_I step, which run in every step, with or without a command (43_commands.md rule R211).
They write nothing that the command of part 3 reads. -/
def ingestParts (pre : State) : State :=
  bktLaunch pre (pubLaunch pre (bktAckSync pre (pubAckSync pre pre)))

/-! ## clk_r: the parts of the DOM_R step in every state (40_frame_store.md rule R140) -/

/-- Publish request synchroniser (40_frame_store.md rule R130). -/
def pubReqSync (pre s : State) : State := { s with preq_s1 := pre.pub_req, preq_s2 := pre.preq_s1 }

/-- A bucket arrives (43_commands.md rule R228). -/
def bktArrives (pre : State) : Bool := pre.breq_s2 != pre.bkt_ack

/-- Bucket capture (43_commands.md rule R228). -/
def bktCapture (pre s : State) : State :=
  { s with
    breq_s1 := pre.bkt_req
    breq_s2 := pre.breq_s1
    bucket_r := if bktArrives pre then pre.bucket_x else s.bucket_r
    bkt_ack := if bktArrives pre then pre.breq_s2 else s.bkt_ack }

/-- A publish arrives (40_frame_store.md rules R131 and R133). -/
def pubArrives (pre : State) : Bool := pre.preq_s2 != pre.pub_ack

/-- Pending capture and acknowledge, in every state but IDLE (40_frame_store.md rule R131). -/
def pendCapture (pre s : State) : State :=
  { s with
    pend_r := if pubArrives pre then true else s.pend_r
    pub_ack := if pubArrives pre then pre.preq_s2 else s.pub_ack }

/-- The parts of the DOM_R step that run in every state (40_frame_store.md rule R140). -/
def renderParts (pre : State) : State := bktCapture pre (pubReqSync pre pre)

end Sys2Proof.Machine
end

