-- ==== Sys2Proof/Machine/Tables.lean ====
section
/-! DEFINITION. Machine/Tables.lean: the lookups in the ROMs and the brightness-bucket MUX (41_tables.md). They are
pure functions of the configuration (rule R161). -/

namespace Sys2Proof.Machine

/-- gamma(ch, v) = GAMMA_LUT[ch][v] (41_tables.md rule R150). -/
def gamma (c : Config) (ch : Channel) (v : Byte) : GammaValue :=
  (c.GAMMA_LUT[ch.index.val])[v.toNat]

/-- delay(b, p) = DELAY_LUT[b][p], in clk_r cycles (41_tables.md rule R155). -/
def delay (c : Config) (b : Bucket) (p : Plane) : Nat :=
  (c.DELAY_LUT[b.toNat])[p.val]

/-- The bucket MUX: the hold length of plane p in the current pass (41_tables.md rule R159). -/
def hold (s : State) (p : Plane) : Nat := delay s.cfg s.pass_bucket p

end Sys2Proof.Machine
end

