-- ==== Sys2Proof/Machine/Timing.lean ====
section
/-! DEFINITION. Machine/Timing.lean: the lengths of the scan's phases, slots and passes in clk_r cycles (42_scan.md
rules R174, R187 and R189), which are part of the block's function (70_reset_and_hazards.md rule R288). -/

namespace Sys2Proof.Machine

/-- The cycles of the SHIFT phase, 2·W·P (42_scan.md rule R174). -/
def shiftLength (c : Config) : Nat := 2 * c.W * c.P

/-- The slot length S(p) = 2·W·P + P + P + DELAY_LUT[b][p] (42_scan.md rule R174). -/
def slotLength (c : Config) (b : Bucket) (p : Plane) : Nat :=
  shiftLength c + c.P + c.P + delay c b p

/-- The cycles of planes 0..n−1 of a pass, R·(S(0) + … + S(n−1)) (42_scan.md rule R187). -/
def planesLength (c : Config) (b : Bucket) (n : Nat) : Nat :=
  c.R * (((List.finRange 11).filter fun q => decide (q.val < n)).map fun q => slotLength c b q).sum

/-- The cycle of a pass in which SCAN begins: 1 + N if the IDLE step took a swap, otherwise 1 (42_scan.md rule R187). -/
def scanStart (c : Config) (take : Bool) : Nat := if take then 1 + c.N else 1

/-- The cycle of a pass in which slot (p, r) starts (42_scan.md rule R187). -/
def slotStart (c : Config) (b : Bucket) (take : Bool) (p : Plane) (r : Nat) : Nat :=
  scanStart c take + planesLength c b p.val + r * slotLength c b p

/-- The length of a pass, T_pass(b, take) (42_scan.md rule R189). -/
def passLength (c : Config) (b : Bucket) (take : Bool) : Nat :=
  1 + (if take then c.N else 0)
    + c.R * (11 * (2 * c.P * (c.W + 1)) + ((List.finRange 11).map fun p => delay c b p).sum)

/-- The premise of flicker claims, F_R / T_pass(7, true) ≥ F_MIN (42_scan.md rule R189). The block does not check it. -/
def flickerFree (c : Config) : Prop := c.F_MIN ≤ c.F_R / passLength c 7 true

end Sys2Proof.Machine
end

