-- ==== Sys2Proof/Machine/Render.lean ====
section
/-! DEFINITION. Machine/Render.lean: the DOM_R step (40_frame_store.md rule R140): the swap decision, INIT and COPY
(40_frame_store.md rules R133 to R135) and the scan (42_scan.md rules R171 and R176). As in Machine/Handshake.lean,
every part reads only `pre`, the state before the edge. -/

namespace Sys2Proof.Machine

/-- k is the last byte of the frame, N − 1 (40_frame_store.md rules R134 and R135). -/
def kAtEnd (pre : State) : Bool := decide (pre.k.toNat = pre.cfg.N - 1)

/-- A publish is waiting: the swap is taken (40_frame_store.md rule R133). -/
def swapTaken (pre : State) : Bool := pre.pend_r || pubArrives pre

/-- The swap decision of the IDLE step: test and clear in one step (40_frame_store.md rule R133). -/
def swapDecision (pre s : State) : State :=
  let t := { s with pend_r := false, pub_ack := pre.preq_s2 }
  if swapTaken pre then { t with st := .copy, k := 0 }
  else { t with st := .scan, p := 0, r := 0, j := 0 }

/-- The bucket latch of the IDLE step (42_scan.md rule R171). -/
def bucketLatch (pre s : State) : State := { s with pass_bucket := pre.bucket_r }

/-- The COPY step: byte k of `next` goes to `current` (40_frame_store.md rule R134). -/
def copyStep (pre s : State) : Result :=
  andThen (writeCurrent pre.k.toNat (pre.next.read pre.k.toNat) s) fun t =>
    if kAtEnd pre then .next { t with st := .scan, k := 0, p := 0, r := 0, j := 0 }
    else .next { t with k := pre.k + 1 }

/-- The INIT step: byte k of `current` is cleared (40_frame_store.md rule R135). -/
def initStep (pre s : State) : Result :=
  andThen (writeCurrent pre.k.toNat 0x00 s) fun t =>
    if kAtEnd pre then .next { t with st := .idle, k := 0 }
    else .next { t with k := pre.k + 1 }

/-- The SCAN step (42_scan.md rule R176). `addr_reg` is set at the step that enters the ADDR phase (rule R180). -/
def scanStep (pre s : State) : State :=
  let t := { s with addr_reg := if pre.j + 1 = shiftLength pre.cfg then pre.r else s.addr_reg }
  if pre.j + 1 < slotLength pre.cfg pre.pass_bucket pre.p then { t with j := pre.j + 1 }
  else if pre.r.toNat + 1 < pre.cfg.R then { t with r := pre.r + 1, j := 0 }
  else if pre.p < 10 then { t with p := pre.p + 1, r := 0, j := 0 }
  else { t with st := .idle, p := 0, r := 0, j := 0 }

/-- The DOM_R step (40_frame_store.md rule R140). -/
def renderStep (pre : State) : Result :=
  match pre.st with
  | .init => initStep pre (pendCapture pre (renderParts pre))
  | .idle => .next (bucketLatch pre (swapDecision pre (renderParts pre)))
  | .copy => copyStep pre (pendCapture pre (renderParts pre))
  | .scan => .next (scanStep pre (pendCapture pre (renderParts pre)))

end Sys2Proof.Machine
end

