-- ==== Sys2Proof/Machine/ResetInput.lean ====
section
/-! DEFINITION. Machine/ResetInput.lean: the reset input and the two reset synchronisers (70_reset_and_hazards.md rules
R270 and R271). -/

namespace Sys2Proof.Machine

/-- Assertion of rst_n: every register of both domains takes its reset value at once, with no clock edge. `next` is
not written, and `current` keeps whatever it held (70_reset_and_hazards.md rules R270 and R271, 10_state.md rule R56). -/
def assertReset (s : State) : State :=
  { State.resetOf s.cfg with
    next := s.next
    current := s.current
    rst_n := false
    rsync_i1 := false
    rsync_i2 := false
    rsync_r1 := false
    rsync_r2 := false
    inputs := s.inputs
    tick := s.tick }

/-- A new level on rst_n (70_reset_and_hazards.md rule R271). Its rise leaves both domains in reset until their own
clocks have brought it through their synchronisers. -/
def driveReset (level : Bool) (s : State) : State :=
  if level then { s with rst_n := true } else assertReset s

/-- The clk_i domain is out of reset (70_reset_and_hazards.md rule R271). -/
def runsI (s : State) : Bool := s.rst_n && s.rsync_i2

/-- The clk_r domain is out of reset (70_reset_and_hazards.md rule R271). -/
def runsR (s : State) : Bool := s.rst_n && s.rsync_r2

/-- A clk_i edge in reset: the domain takes no step, and only its reset synchroniser moves
(70_reset_and_hazards.md rule R271, 43_commands.md rule R237; notes/assumptions/4.md). -/
def resetEdgeI (s : State) : State :=
  { s with rsync_i1 := s.rst_n, rsync_i2 := s.rst_n && s.rsync_i1 }

/-- A clk_r edge in reset: the domain takes no step, and only its reset synchroniser moves
(70_reset_and_hazards.md rule R271; notes/assumptions/4.md). -/
def resetEdgeR (s : State) : State :=
  { s with rsync_r1 := s.rst_n, rsync_r2 := s.rst_n && s.rsync_r1 }

end Sys2Proof.Machine
end

