-- ==== Sys2Proof/Machine/Edge.lean ====
section
/-! DEFINITION. Machine/Edge.lean: what one event at the inputs does: the DOM_I step, the DOM_R step or a change of
rst_n (00_scope.md rule R14). -/

namespace Sys2Proof.Machine

/-- Part 3 of the DOM_I step for the word on cmd: the decoded command, or the rejected word
(43_commands.md rule R211, 30_encoding.md rule R113). -/
def commandWord (cmd : Word) (s : State) : Result :=
  match decode cmd with
  | .ok i => exec i s
  | .error .badArg => execBadArg s

/-- The DOM_I step (43_commands.md rule R211): parts 1 and 2, then the command if cmd_valid = 1 (rule R236). -/
def ingestStep (cmd_valid : Bool) (cmd : Word) (s : State) : Result :=
  if cmd_valid then commandWord cmd (ingestParts s) else .next (ingestParts s)

/-- A rising edge of clk_i (43_commands.md rules R211 and R237). -/
def edgeI (cmd_valid : Bool) (cmd : Word) (s : State) : Result :=
  if runsI s then ingestStep cmd_valid cmd s else .next (resetEdgeI s)

/-- A rising edge of clk_r (40_frame_store.md rule R140, 70_reset_and_hazards.md rule R271). -/
def edgeR (s : State) : Result :=
  if runsR s then renderStep s else .next (resetEdgeR s)

/-- One event at the inputs. -/
def event (e : Input) (s : State) : Result :=
  match e with
  | .clk_i cmd_valid cmd => edgeI cmd_valid cmd s
  | .clk_r => edgeR s
  | .rst_n level => .next (driveReset level s)

/-- The next input: the first of the listed ones, or a free one where none is listed (notes/assumptions/2.md). -/
def nextInput (s : State) : Input :=
  match s.inputs with
  | [] => Config.freeInput s.tick
  | e :: _ => e

/-- The state with its next input taken. -/
def takeInput (s : State) : State :=
  match s.inputs with
  | [] => { s with tick := s.tick + 1 }
  | _ :: rest => { s with inputs := rest }

/-- The state in which the next event is a clk_i edge, out of reset, that presents the word. -/
def presentWord (w : Word) (s : State) : State :=
  { s with rst_n := true, rsync_i1 := true, rsync_i2 := true, inputs := .clk_i true w :: s.inputs }

end Sys2Proof.Machine
end

