-- ==== Sys2Proof/Machine/Step.lean ====
section
/-! DEFINITION. Machine/Step.lean: one step of the machine is one event at its inputs: a rising edge of either clock,
which is one atomic step of that domain's agent, or a change of rst_n (00_scope.md rule R14). -/

namespace Sys2Proof.Machine

/-- One step. -/
def step (s : State) : Host.Outcome State Fault Refusal := event (nextInput s) (takeInput s)

/-- The state in which the next step is a clk_i edge that presents the word w of nbits bits with cmd_valid = 1. The
block fetches nothing: the host presents commands (43_commands.md rule R235; notes/assumptions/5.md). -/
def State.withFetchWord (s : State) (nbits w : Nat) : State :=
  presentWord (BitVec.ofNat 32 (w % 2 ^ nbits)) s

end Sys2Proof.Machine
end

