-- ==== Sys2Proof/Machine/Flags.lean ====
section
/-! DEFINITION. Machine/Flags.lean: the status word. The block has no condition codes: its only flags are the three
sticky error flags (10_state.md rule R36), which `raise` and `clearErrors` write. -/

namespace Sys2Proof.Machine

/-- DISCARDING: 1 if `discard` ≠ 0 (10_state.md rule R44). -/
def discarding (s : State) : Bool := decide (s.discard ≠ 0)

/-- The status output, a combinational function of the clk_i registers (10_state.md rule R44). Reading it has no side
effect. -/
def status (s : State) : Word :=
  0#1 ++ s.bucket_i ++ BitVec.ofBool (discarding s) ++ BitVec.ofBool s.err_len ++ BitVec.ofBool s.err_arg
    ++ BitVec.ofBool s.err_cmd ++ 0#4 ++ s.cursor

end Sys2Proof.Machine
end

