-- ==== Sys2Proof/Machine/Pins.lean ====
section
/-! DEFINITION. Machine/Pins.lean: the panel pins as a function of the render state: a Moore machine (42_scan.md rule
R172). -/

namespace Sys2Proof.Machine

/-- The panel pins (10_state.md rule R33). `OE_N` is active low. -/
structure Pins where
  RGB : BitVec 6
  PCLK : Bool
  ADDR : BitVec 5
  LAT : Bool
  OE_N : Bool
deriving DecidableEq, Repr

/-- off(y, x, ch) = 3·(y·W + x) + ch (20_memory.md rule R72). -/
def frameOffset (c : Config) (y x : Nat) (ch : Channel) : Nat := 3 * (y * c.W + x) + ch.index.val

/-- bit(gamma(ch, v), p) = (g >> p) AND 1 (42_scan.md rule R178). -/
def gammaBit (c : Config) (ch : Channel) (v : Byte) (p : Plane) : Bool := (gamma c ch v >>> p.val).getLsbD 0

/-- The bit of channel ch of the pixel in frame row y and column x, in plane p (42_scan.md rule R178). -/
def pixelBit (c : Config) (m : Memory) (p : Plane) (y x : Nat) (ch : Channel) : Bool :=
  gammaBit c ch (m.read (frameOffset c y x ch)) p

/-- word(p, r, c) = {bot(2), bot(1), bot(0), top(2), top(1), top(0)} (42_scan.md rule R178, 30_encoding.md rule R111):
the top pixel is in frame row r and the bottom pixel in frame row r + R. -/
def colourWord (c : Config) (m : Memory) (p : Plane) (r col : Nat) : BitVec 6 :=
  BitVec.ofBool (pixelBit c m p (r + c.R) col .blue) ++ BitVec.ofBool (pixelBit c m p (r + c.R) col .green)
    ++ BitVec.ofBool (pixelBit c m p (r + c.R) col .red) ++ BitVec.ofBool (pixelBit c m p r col .blue)
    ++ BitVec.ofBool (pixelBit c m p r col .green) ++ BitVec.ofBool (pixelBit c m p r col .red)

/-- The pins in INIT, IDLE and COPY, and while clk_r is in reset: dark, with ADDR held (42_scan.md rule R173). -/
def idlePins (s : State) : Pins := ⟨0, false, s.addr_reg, false, true⟩

/-- The pins in SCAN at (p, r, j) (42_scan.md rule R175). -/
def scanPins (s : State) : Pins :=
  let c := s.cfg
  if s.j < shiftLength c then
    ⟨colourWord c s.current s.p s.r.toNat (s.j / (2 * c.P)), decide (c.P ≤ s.j % (2 * c.P)), s.addr_reg, false, true⟩
  else if s.j < shiftLength c + c.P then
    ⟨0, false, s.addr_reg, false, true⟩
  else if s.j < shiftLength c + 2 * c.P then
    ⟨0, false, s.addr_reg, true, true⟩
  else
    ⟨0, false, s.addr_reg, false, false⟩

/-- The pins in the cycle whose render state is s (42_scan.md rule R172). In reset the state is INIT. -/
def pins (s : State) : Pins :=
  match s.st with
  | .init => idlePins s
  | .idle => idlePins s
  | .copy => idlePins s
  | .scan => scanPins s

end Sys2Proof.Machine
end

