-- ==== Sys2Proof/Machine/Panel.lean ====
section
/-! DEFINITION. Machine/Panel.lean: the panel as an observer of the pins (42_scan.md rule R190, which the spec takes
from general knowledge) and the lit time of rule R191. The panel is outside the block (00_scope.md rule R7), so it
is not in State, and nothing of the machine reads it. -/

namespace Sys2Proof.Machine

/-- The panel: six shift chains of W cells and their output latches, as 6-bit words, the word shifted in last
first, and the level PCLK had in the cycle before (42_scan.md rule R190). -/
structure Panel where
  chain : List (BitVec 6)
  latches : List (BitVec 6)
  pclk : Bool
deriving DecidableEq, Repr

/-- One clk_r cycle seen by the panel: a rising edge of PCLK shifts RGB in, and while LAT = 1 the chains are copied
into the latches (42_scan.md rule R190). -/
def Panel.observe (c : Config) (q : Pins) (l : Panel) : Panel :=
  let chain := if q.PCLK && !l.pclk then (q.RGB :: l.chain).take c.W else l.chain
  ⟨chain, if q.LAT then chain else l.latches, q.PCLK⟩

/-- The latched word of column x. Column x is the (x+1)-th word shifted (42_scan.md rule R179), so it is the cell
W − 1 − x of the chain. -/
def Panel.word (c : Config) (l : Panel) (x : Nat) : BitVec 6 := l.latches.getD (c.W - 1 - x) 0

/-- The LED of channel ch of frame pixel (y, x) is lit: OE_N = 0, the row is ADDR (top half, lines 0..2) or ADDR + R
(bottom half, lines 3..5), and its latch bit is 1 (42_scan.md rule R190). -/
def Panel.lit (c : Config) (q : Pins) (l : Panel) (y x : Nat) (ch : Channel) : Bool :=
  !q.OE_N && ((decide (y = q.ADDR.toNat) && (l.word c x).getLsbD ch.index.val)
    || (decide (y = q.ADDR.toNat + c.R) && (l.word c x).getLsbD (3 + ch.index.val)))

/-- L(ch, v, b): the cycles for which a value v of channel ch is lit in one pass with bucket b (42_scan.md rule
R191). -/
def litTime (c : Config) (ch : Channel) (v : Byte) (b : Bucket) : Nat :=
  ((List.finRange 11).map fun p => (gammaBit c ch v p).toNat * delay c b p).sum

end Sys2Proof.Machine
end

