-- ==== Sys2Proof/Safety.lean ====
section
/-! DEFINITION. Safety.lean: the invariant of the block, and the words in which statements speak of runs: events fed
to the machine, what they contain, and the panel watching it. -/

namespace Sys2Proof.Machine

/-! ## The invariant -/

/-- Going down the list the value changes at most once. -/
def atMostOneFlip : List Bool → Bool
  | a :: b :: l => if a = b then atMostOneFlip (b :: l) else l.all fun x => x == b
  | _ => true

/-- The way of a publish request: out from DOM_I, taken in by DOM_R, and its acknowledge back
(40_frame_store.md rule R130, 43_commands.md rules R220 and R222). -/
def publishRing (s : State) : List Bool :=
  [s.pub_req, s.preq_s1, s.preq_s2, s.pub_ack, s.pack_s1, s.pack_s2]

/-- The way of a bucket request and its acknowledge (43_commands.md rules R226, R228 and R229). -/
def bucketRing (s : State) : List Bool :=
  [s.bkt_req, s.breq_s1, s.breq_s2, s.bkt_ack, s.back_s1, s.back_s2]

/-- The clk_i registers hold their reset values (10_state.md rule R56). -/
def ingestAtReset (s : State) : Prop :=
  s.cursor = 0 ∧ s.discard = 0 ∧ s.err_cmd = false ∧ s.err_arg = false ∧ s.err_len = false
    ∧ s.bucket_i = s.cfg.RESET_BUCKET ∧ s.pub_dirty = false ∧ s.pub_req = false ∧ s.pack_s1 = false
    ∧ s.pack_s2 = false ∧ s.bkt_dirty = false ∧ s.bucket_x = s.cfg.RESET_BUCKET ∧ s.bkt_req = false
    ∧ s.back_s1 = false ∧ s.back_s2 = false

/-- The clk_r registers hold their reset values (10_state.md rule R56). -/
def renderAtReset (s : State) : Prop :=
  s.st = .init ∧ s.k = 0 ∧ s.p = 0 ∧ s.r = 0 ∧ s.j = 0 ∧ s.addr_reg = 0
    ∧ s.pass_bucket = s.cfg.RESET_BUCKET ∧ s.bucket_r = s.cfg.RESET_BUCKET ∧ s.preq_s1 = false
    ∧ s.preq_s2 = false ∧ s.pub_ack = false ∧ s.pend_r = false ∧ s.breq_s1 = false ∧ s.breq_s2 = false
    ∧ s.bkt_ack = false

/-- The invariant of the block: what holds at reset and is kept by every step. -/
structure State.Inv (s : State) : Prop where
  /-- The cursor is in 0..N−1 (10_state.md rule R34). -/
  cursor_in_frame : s.cursor.toNat < s.cfg.N
  /-- `next` is in canonical form. -/
  next_canonical : s.next.wf = true
  /-- `next` has N bytes (10_state.md rule R49). -/
  next_in_frame : s.next.below s.cfg.N = true
  /-- `current` is in canonical form. -/
  current_canonical : s.current.wf = true
  /-- `current` has N bytes (10_state.md rule R50). -/
  current_in_frame : s.current.below s.cfg.N = true
  /-- k is in 0..N−1 (10_state.md rule R41). -/
  k_in_frame : s.k.toNat < s.cfg.N
  /-- k is 0 outside INIT and COPY (10_state.md rule R41). -/
  k_zero : s.st = .idle ∨ s.st = .scan → s.k = 0
  /-- r is in 0..R−1 (10_state.md rule R42). -/
  row_in_range : s.r.toNat < s.cfg.R
  /-- The scan position is 0 outside SCAN (10_state.md rule R42). -/
  position_zero : s.st ≠ .scan → s.p = 0 ∧ s.r = 0 ∧ s.j = 0
  /-- j is in 0..S(p)−1 (10_state.md rule R42). -/
  j_in_slot : s.st = .scan → s.j < slotLength s.cfg s.pass_bucket s.p
  /-- Only values 0..R−1 are ever driven on ADDR (30_encoding.md rule R112). -/
  addr_in_range : s.addr_reg.toNat < s.cfg.R
  /-- ADDR shows the slot's row from its ADDR phase on (42_scan.md rule R180). -/
  addr_holds_row : s.st = .scan → shiftLength s.cfg ≤ s.j → s.addr_reg = s.r
  /-- INIT has cleared the bytes below k (40_frame_store.md rule R135). -/
  init_cleared : s.st = .init → ∀ a, a < s.k.toNat → s.current.read a = 0
  /-- At most one publish request is in flight (40_frame_store.md rule R130). -/
  one_publish_in_flight : atMostOneFlip (publishRing s) = true
  /-- At most one bucket request is in flight (43_commands.md rule R226). -/
  one_bucket_in_flight : atMostOneFlip (bucketRing s) = true
  /-- A bucket that is not in flight has been captured (43_commands.md rule R228). -/
  bucket_captured : s.bkt_ack = s.bkt_req → s.bucket_r = s.bucket_x
  /-- A bucket that is not waiting has been launched (43_commands.md rule R226). -/
  bucket_launched : s.bkt_dirty = false → s.bucket_x = s.bucket_i
  /-- While rst_n = 0 both synchronisers hold 0 (70_reset_and_hazards.md rule R271). -/
  synchronisers_cleared : s.rst_n = false →
    s.rsync_i1 = false ∧ s.rsync_i2 = false ∧ s.rsync_r1 = false ∧ s.rsync_r2 = false
  /-- A synchroniser's second flop follows its first (70_reset_and_hazards.md rule R271). -/
  synchroniser_order_i : s.rsync_i2 = true → s.rsync_i1 = true
  /-- A synchroniser's second flop follows its first (70_reset_and_hazards.md rule R271). -/
  synchroniser_order_r : s.rsync_r2 = true → s.rsync_r1 = true
  /-- In reset the clk_i registers hold their reset values (43_commands.md rule R237). -/
  ingest_in_reset : runsI s = false → ingestAtReset s
  /-- In reset the clk_r registers hold their reset values (70_reset_and_hazards.md rule R270). -/
  render_in_reset : runsR s = false → renderAtReset s

/-! ## Runs -/

/-- The events of the list happen in order, up to the first stop. -/
def feed : List Input → State → Result
  | [], s => .next s
  | e :: l, s => andThen (event e s) (feed l)

/-- No event is a change of rst_n. -/
def noReset (l : List Input) : Bool :=
  l.all fun e => match e with | .rst_n _ => false | .clk_i _ _ => true | .clk_r => true

/-- The number of clk_r edges. -/
def renderEdges (l : List Input) : Nat := l.countP fun e => decide (e = .clk_r)

/-- The number of clk_i edges. -/
def ingestEdges (l : List Input) : Nat :=
  l.countP fun e => match e with | .clk_i _ _ => true | .rst_n _ => false | .clk_r => false

/-- The command at the event, if it presents one that is well-formed. -/
def presented (e : Input) : Option Instr :=
  match e with
  | .clk_i true w => (match decode w with | .ok i => some i | .error _ => none)
  | .clk_i false _ => none
  | .clk_r => none
  | .rst_n _ => none

/-- The SUBMITs and WRITE_BYTEs presented at the clk_i edges, in order. -/
def frameCommands (l : List Input) : List Instr :=
  l.filterMap fun e =>
    match presented e with
    | some (.writeByte val) => some (.writeByte val)
    | some (.submit len) => some (.submit len)
    | _ => none

/-- The event makes a WRITE_BYTE store in this state (43_commands.md rules R212 and R214). -/
def stores (e : Input) (s : State) : Bool :=
  runsI s && decide (s.discard = 0) && (match presented e with | some (.writeByte _) => true | _ => false)

/-- No WRITE_BYTE stores in the run (20_memory.md rule R85). -/
def noStore : List Input → State → Bool
  | [], _ => true
  | e :: l, s => !stores e s && (match event e s with | .next t => noStore l t | .fault _ => true | .refused _ => true)

/-- No publish is waiting, in flight, pending or being copied (40_frame_store.md rule R132). -/
def nothingPending (s : State) : Prop :=
  s.pub_dirty = false ∧ s.pub_ack = s.pub_req ∧ s.pend_r = false ∧ s.st ≠ .copy

/-- No publish has been made since reset that anything in the state still remembers (40_frame_store.md rule R137). -/
def neverPublished (s : State) : Prop :=
  s.pub_dirty = false ∧ publishRing s = [false, false, false, false, false, false] ∧ s.pend_r = false ∧ s.st ≠ .copy

/-- The two states differ only in bytes of `next` that were written in neither: bytes at the cursor or above, with
no publish made yet (40_frame_store.md rule R137). -/
def differOnlyInUnwritten (s t : State) : Prop :=
  t = { s with next := t.next } ∧
    ((∀ a, a < s.cfg.N → s.next.read a = t.next.read a) ∨
      (neverPublished s ∧ ∀ a, a < s.cursor.toNat → s.next.read a = t.next.read a))

/-- The events from s with the panel watching: at every clk_r edge it sees the pins of the cycle that ends there. The
number counts the cycles in which the LED of channel ch of frame pixel (y, x) is lit (42_scan.md rules R190 and R191). -/
def watch (y x : Nat) (ch : Channel) : List Input → State → Panel → Nat → Option (State × Panel × Nat)
  | [], s, q, lit => some (s, q, lit)
  | e :: l, s, q, lit =>
    let q' := if e = .clk_r then q.observe s.cfg (pins s) else q
    let lit' := if e = .clk_r then lit + (q'.lit s.cfg (pins s) y x ch).toNat else lit
    match event e s with
    | .next t => watch y x ch l t q' lit'
    | .fault _ => none
    | .refused _ => none

end Sys2Proof.Machine
end

