-- ==== Sys2Proof/Certificates/Slice0/Obligations.lean ====
section
/-! DEFINITION. Certificates/Slice0/Obligations.lean: what is claimed of the block, each statement with the rule of spec/
it formalises. OBLIGATIONS.json lists them in the same order. -/

open Sys2Proof Sys2Proof.Machine

/-! ## Encoding (30_encoding.md) -/

/-- The words of 95_test_vectors.md V11, written out from 30_encoding.md rules R101 to R105, decode to what they stand
for. -/
def Obligations.SampleWordsDecodeAsEncoded : Prop :=
  decode 0x00000000 = .ok .nop ∧ decode 0x0F000000 = .error .badArg ∧
  decode 0x100000FF = .ok (.writeByte 0xFF) ∧ decode 0x10000100 = .error .badArg ∧
  decode 0x18000001 = .error .badArg ∧ decode 0x2000000C = .ok (.submit 12) ∧
  decode 0x20FFFFFF = .ok (.submit 0xFFFFFF) ∧ decode 0x21000000 = .error .badArg ∧
  decode 0x30000007 = .ok (.setBucket 7) ∧ decode 0x30000008 = .error .badArg ∧
  decode 0x40000000 = .ok .clearStatus ∧ decode 0x40000001 = .error .badArg ∧
  decode 0x50000000 = .ok (.reserved5 0) ∧ decode 0x8000000C = .ok (.reserved8 0xC) ∧
  decode 0xFFFFFFFF = .ok (.reservedF 0xFFFFFFF)

/-- Every command, with every operand, decodes from its own word (30_encoding.md rules R101 to R106 and R109). -/
def Obligations.DecodeInvertsEncode : Prop := ∀ i : Instr, decode (encode i) = .ok i

/-- Every word that decodes to a command is that command's word: no bit of a word is dropped (30_encoding.md rules R106
and R113). -/
def Obligations.EncodeInvertsDecode : Prop := ∀ (w : Word) (i : Instr), decode w = .ok i → encode i = w

/-- Rule R107: a word is the command in a row exactly when (w AND mask) = match. -/
def Obligations.DecodingFollowsTheOpcodeMap : Prop :=
  ∀ (w : Word) (n : Fin 16),
    w &&& (opcodeTable[n]).mask = (opcodeTable[n]).pattern ↔ ∃ i, decode w = .ok i ∧ i.rowIndex = n

/-- Rules R116, R117 and R118: each line assembles to its command's word, `frame` takes exactly N bytes and expands to
SUBMIT N and N WRITE_BYTEs, `fill` expands to COUNT WRITE_BYTEs, and an operand out of its range is an assembly error. -/
def Obligations.LinesAssembleToTheirCommands : Prop :=
  ∀ (c : Config) (bytes : List Nat) (v count : Nat),
    assemble c.N .nop = some [encode .nop] ∧
    assemble c.N (.wrb v) = (if v ≤ 255 then some [encode (.writeByte (BitVec.ofNat 8 v))] else none) ∧
    assemble c.N (.submit v) = (if v ≤ 0xFFFFFF then some [encode (.submit (BitVec.ofNat 24 v))] else none) ∧
    assemble c.N (.setb v) = (if v ≤ 7 then some [encode (.setBucket (BitVec.ofNat 3 v))] else none) ∧
    assemble c.N .clrst = some [encode .clearStatus] ∧
    assemble c.N (.word v) = (if v < 2 ^ 32 then some [BitVec.ofNat 32 v] else none) ∧
    ((bytes.length = c.N ∧ ∀ b ∈ bytes, b ≤ 255) → assemble c.N (.frame bytes) =
      some (encode (.submit (BitVec.ofNat 24 c.N)) :: bytes.map fun b => encode (.writeByte (BitVec.ofNat 8 b)))) ∧
    ((bytes.length ≠ c.N ∨ ∃ b ∈ bytes, 255 < b) → assemble c.N (.frame bytes) = none) ∧
    assemble c.N (.fill v count) =
      (if v ≤ 255 then some (List.replicate count (encode (.writeByte (BitVec.ofNat 8 v)))) else none)

/-! ## Configuration and tables (00_scope.md, 41_tables.md) -/

/-- Rule R11: exactly the parameters in the ranges of rule R10, with tables that meet rules R152, R153, R156 and R157,
are elaborated, and all others are refused. The range of RESET_BUCKET is its type's. -/
def Obligations.OnlyLegalConfigurationsElaborate : Prop :=
  ∀ c : Params, (Config.elaborate c).isSome = true ↔
    (1 ≤ c.W ∧ c.W ≤ 4096) ∧ (c.H % 2 = 0 ∧ 2 ≤ c.H ∧ c.H ≤ 64) ∧ 1 ≤ c.P ∧ (1 ≤ c.DELAY_W ∧ c.DELAY_W ≤ 32) ∧
    (0 < c.F_R ∧ 0 < c.F_I ∧ 0 < c.F_MIN) ∧
    (∀ ch : Fin 3, ∀ v : Fin 255,
      (c.GAMMA_LUT[ch.val][v.val]).toNat ≤ (c.GAMMA_LUT[ch.val][v.val + 1]).toNat) ∧
    (∀ ch : Fin 3, c.GAMMA_LUT[ch.val][0] = 0) ∧
    (∀ b : Fin 8, ∀ p : Fin 11, c.DELAY_LUT[b.val][p.val] < 2 ^ c.DELAY_W) ∧
    (∀ b : Fin 8, ∀ p : Fin 10, c.DELAY_LUT[b.val][p.val] ≤ c.DELAY_LUT[b.val][p.val + 1]) ∧
    (∀ p : Fin 11, ∀ b : Fin 7, c.DELAY_LUT[b.val][p.val] ≤ c.DELAY_LUT[b.val + 1][p.val])

/-- Rules R152, R153, R156 and R157: gamma never falls with the value, stays within 0..2047 and maps 0 to 0. Delays
never fall with the plane or with the bucket. -/
def Obligations.TablesRise : Prop :=
  (∀ (c : Config) (ch : Channel) (v v' : Byte),
    (v ≤ v' → gamma c ch v ≤ gamma c ch v') ∧ (gamma c ch v).toNat ≤ 2047 ∧ gamma c ch 0 = 0) ∧
  (∀ (c : Config) (b b' : Bucket) (p p' : Plane),
    (p ≤ p' → delay c b p ≤ delay c b p') ∧ (b ≤ b' → delay c b p ≤ delay c b' p))

/-! ## Reset (10_state.md, 70_reset_and_hazards.md) -/

/-- Rule R56: every register's reset value, the pins and the status word after reset, in every configuration. Whatever
the memories held, N INIT steps later `current` is 0x00 everywhere and `next` is as it was. -/
def Obligations.ResetLeavesTheTabledValues : Prop :=
  ∀ c : Config,
    (State.resetOf c).cfg = c ∧ ingestAtReset (State.resetOf c) ∧ renderAtReset (State.resetOf c) ∧
    pins (State.resetOf c) = ⟨0, false, 0, false, true⟩ ∧
    status (State.resetOf c) = BitVec.setWidth 32 c.RESET_BUCKET <<< 28 ∧
    ∀ m m' : Memory, m'.wf = true →
      ∃ t, feed (List.replicate c.N .clk_r) { State.resetOf c with next := m, current := m' } = .next t ∧
        t.st = .idle ∧ t.next = m ∧ ∀ a, a < c.N → t.current.read a = 0

/-- 70_reset_and_hazards.md rule R270, the assertion of rst_n: from every state all registers of both domains take
their reset values at once, the memories are kept, the pins go dark, and both domains are in reset. -/
def Obligations.ResetAssertionClearsBothDomains : Prop :=
  ∀ s : State, ∃ t, event (.rst_n false) s = .next t ∧
    ingestAtReset t ∧ renderAtReset t ∧ t.cfg = s.cfg ∧ t.next = s.next ∧ t.current = s.current ∧
    pins t = ⟨0, false, 0, false, true⟩ ∧ status t = BitVec.setWidth 32 s.cfg.RESET_BUCKET <<< 28 ∧
    runsI t = false ∧ runsR t = false

/-- 43_commands.md rule R237 and 70_reset_and_hazards.md rule R271: an edge in reset moves the domain's reset
synchroniser and nothing else, whatever is presented. That the synchroniser has two flops and that the step comes at
the edge after the second are the model's reading (notes/assumptions/4.md). -/
def Obligations.DomainInResetTakesNoStep : Prop :=
  (∀ (s : State) (v : Bool) (w : Word), runsI s = false →
    event (.clk_i v w) s = .next { s with rsync_i1 := s.rst_n, rsync_i2 := s.rst_n && s.rsync_i1 }) ∧
  (∀ s : State, runsR s = false →
    event .clk_r s = .next { s with rsync_r1 := s.rst_n, rsync_r2 := s.rst_n && s.rsync_r1 })

/-! ## Commands (43_commands.md)
Each statement gives the whole next state, so it says what the command completes with and what it leaves alone. -/

/-- Rule R210: NOP has no effect, not even on a launch in its step, and a NOP with an operand bit set is no NOP. -/
def Obligations.NopHasNoEffect : Prop :=
  (∀ s : State, exec .nop s = .next s) ∧
  (∀ s : State, runsI s = true → event (.clk_i true 0) s = event (.clk_i false 0) s) ∧
  (∀ operand : BitVec 28, operand ≠ 0 → decode (0x0#4 ++ operand) = .error .badArg)

/-- Rule R212: while `discard` ≠ 0 the byte is only counted. Otherwise it is stored at the cursor, which goes up by 1,
or to 0 from N − 1, where the store publishes. -/
def Obligations.WriteByteStoresAtTheCursor : Prop :=
  ∀ (val : Byte) (s : State), s.cursor.toNat < s.cfg.N →
    exec (.writeByte val) s = .next (
      if s.discard ≠ 0 then { s with discard := s.discard - 1 }
      else if s.cursor.toNat = s.cfg.N - 1 then
        { s with next := s.next.write (storeOffset s) val, cursor := 0, pub_dirty := true }
      else { s with next := s.next.write (storeOffset s) val, cursor := s.cursor + 1 })

/-- 43_commands.md rules R212, R214 and R233, the frame of memory: a store changes only the byte at the cursor, which
becomes VAL, a dropped byte changes none, and `current` is untouched. -/
def Obligations.WriteByteChangesOneByteOfNext : Prop :=
  ∀ (val : Byte) (s t : State), s.next.wf = true → exec (.writeByte val) s = .next t →
    (∀ a, (s.discard ≠ 0 ∨ a ≠ storeOffset s) → t.next.read a = s.next.read a) ∧
    (s.discard = 0 → t.next.read (storeOffset s) = val) ∧
    (∀ a, t.current.read a = s.current.read a)

/-- Rule R214: a dropped byte counts `discard` down and does nothing else. No other command but SUBMIT changes
`discard`. After LEN dropped bytes, after SUBMIT N and after a reset it is 0. Status[27] shows that it is not 0. -/
def Obligations.RejectedFrameBytesAreDropped : Prop :=
  (∀ (val : Byte) (s : State), s.discard ≠ 0 →
    exec (.writeByte val) s = .next { s with discard := s.discard - 1 }) ∧
  (∀ (i : Instr) (s t : State), (∀ val, i ≠ .writeByte val) → (∀ len, i ≠ .submit len) → exec i s = .next t →
    t.discard = s.discard) ∧
  (∀ (s : State) (vals : List Byte), runsI s = true → vals.length = s.discard.toNat →
    ∃ t, feed (vals.map fun v => .clk_i true (encode (.writeByte v))) s = .next t ∧
      t.discard = 0 ∧ t.next = s.next ∧ t.cursor = s.cursor) ∧
  (∀ s : State, exec (.submit (BitVec.ofNat 24 s.cfg.N)) s = .next { s with cursor := 0, discard := 0 }) ∧
  (∀ s : State, ∃ t, event (.rst_n false) s = .next t ∧ t.discard = 0) ∧
  (∀ s : State, (status s).getLsbD 27 = decide (s.discard ≠ 0))

/-- Rule R213: of all commands, exactly a WRITE_BYTE that stores at offset N − 1 publishes, and it does so whether or
not a publish is waiting. -/
def Obligations.OnlyTheWrappingStorePublishes : Prop :=
  ∀ (i : Instr) (s t : State), exec i s = .next t →
    (t.pub_dirty = true ↔ s.pub_dirty = true ∨
      (∃ val, i = .writeByte val) ∧ s.discard = 0 ∧ s.cursor.toNat = s.cfg.N - 1)

/-- Rule R218: LEN = N sets the cursor to 0 and cancels the discard. Any other LEN raises ERR_LEN and replaces the
discard count, with the cursor where it was. `next` and `pub_dirty` are not written. -/
def Obligations.SubmitChecksTheFrameLength : Prop :=
  ∀ (len : BitVec 24) (s : State), exec (.submit len) s = .next (
    if len.toNat = s.cfg.N then { s with cursor := 0, discard := 0 }
    else { s with err_len := true, discard := len })

/-- Rule R224: SET_BUCKET sets the bucket and marks it for launch, and status[30:28] shows it. -/
def Obligations.SetBucketAcceptsTheBucket : Prop :=
  ∀ (bkt : Bucket) (s : State), ∃ t, exec (.setBucket bkt) s = .next t ∧
    t = { s with bucket_i := bkt, bkt_dirty := true } ∧ (status t).extractLsb' 28 3 = bkt

/-- Rule R232: CLEAR_STATUS clears the three error flags and changes nothing else. -/
def Obligations.ClearStatusClearsTheFlags : Prop :=
  ∀ s : State, exec .clearStatus s = .next { s with err_cmd := false, err_arg := false, err_len := false }

/-- Rule R234: each of the eleven reserved opcodes sets `err_cmd` and nothing else, whatever its operand, and every
word with such an opcode is one of them. -/
def Obligations.ReservedOpcodesRaiseErrCmd : Prop :=
  (∀ (operand : BitVec 28) (s : State),
    exec (.reserved5 operand) s = .next { s with err_cmd := true } ∧
    exec (.reserved6 operand) s = .next { s with err_cmd := true } ∧
    exec (.reserved7 operand) s = .next { s with err_cmd := true } ∧
    exec (.reserved8 operand) s = .next { s with err_cmd := true } ∧
    exec (.reserved9 operand) s = .next { s with err_cmd := true } ∧
    exec (.reservedA operand) s = .next { s with err_cmd := true } ∧
    exec (.reservedB operand) s = .next { s with err_cmd := true } ∧
    exec (.reservedC operand) s = .next { s with err_cmd := true } ∧
    exec (.reservedD operand) s = .next { s with err_cmd := true } ∧
    exec (.reservedE operand) s = .next { s with err_cmd := true } ∧
    exec (.reservedF operand) s = .next { s with err_cmd := true }) ∧
  (∀ (w : Word) (s : State), 5 ≤ (fieldOP w).toNat → commandWord w s = .next { s with err_cmd := true })

/-- Rules R215 and R108: a word with opcode 0x0..0x4 and a reserved operand bit set raises ERR_ARG and changes nothing
else: it is not executed on the masked operand. -/
def Obligations.OverwideWordsRaiseErrArg : Prop :=
  ∀ (w : Word) (n : Fin 5) (s : State), fieldOP w = BitVec.ofNat 4 n.val →
    w &&& (opcodeTable[n.val]).mask &&& 0x0FFFFFFF ≠ 0 → commandWord w s = .next { s with err_arg := true }

/-- Rule R238, the summary: what part 3 of a DOM_I step writes for each outcome of the decoder, and that nothing else
is written after parts 1 and 2. -/
def Obligations.PartThreeWritesItsColumns : Prop :=
  ∀ (v : Bool) (w : Word) (s t : State), runsI s = true → event (.clk_i v w) s = .next t →
    let u := ingestParts s
    (v = false → t = u) ∧
    (v = true → match decode w with
      | .ok .nop => t = u
      | .ok (.writeByte val) =>
        t = if u.discard ≠ 0 then { u with discard := u.discard - 1 }
          else if u.cursor.toNat = u.cfg.N - 1 then
            { u with next := u.next.write (u.cfg.N - 1) val, cursor := 0, pub_dirty := true }
          else { u with next := u.next.write u.cursor.toNat val, cursor := u.cursor + 1 }
      | .ok (.submit len) =>
        t = if len.toNat = u.cfg.N then { u with cursor := 0, discard := 0 }
          else { u with discard := len, err_len := true }
      | .ok (.setBucket bkt) => t = { u with bucket_i := bkt, bkt_dirty := true }
      | .ok .clearStatus => t = { u with err_cmd := false, err_arg := false, err_len := false }
      | .ok _ => t = { u with err_cmd := true }
      | .error .badArg => t = { u with err_arg := true })

/-- Rule R244: a word sets at most one flag: `err_cmd` for a reserved opcode, `err_arg` for a rejected word, whose
length is not checked, `err_len` for a well-formed SUBMIT with LEN ≠ N, and none otherwise. -/
def Obligations.EachWordRaisesItsOwnError : Prop :=
  ∀ (w : Word) (s t : State), s.err_cmd = false → s.err_arg = false → s.err_len = false →
    commandWord w s = .next t →
    (t.err_cmd = true ↔ 5 ≤ (fieldOP w).toNat) ∧
    (t.err_arg = true ↔ decode w = .error .badArg) ∧
    (t.err_len = true ↔ ∃ len, decode w = .ok (.submit len) ∧ len.toNat ≠ s.cfg.N)

/-- 60_exceptions.md rule R243: in every step, a set error flag stays set unless the step executes CLEAR_STATUS or
asserts reset. -/
def Obligations.ErrorFlagsAreSticky : Prop :=
  ∀ s t : State, step s = .next t → nextInput s ≠ .rst_n false → presented (nextInput s) ≠ some .clearStatus →
    (s.err_cmd = true → t.err_cmd = true) ∧ (s.err_arg = true → t.err_arg = true) ∧
    (s.err_len = true → t.err_len = true)

/-- Rule R44: the fields of the status word. -/
def Obligations.StatusWordLayout : Prop :=
  ∀ s : State,
    (status s).extractLsb' 0 20 = s.cursor ∧ (status s).extractLsb' 20 4 = 0 ∧
    (status s).getLsbD 24 = s.err_cmd ∧ (status s).getLsbD 25 = s.err_arg ∧ (status s).getLsbD 26 = s.err_len ∧
    (status s).getLsbD 27 = decide (s.discard ≠ 0) ∧ (status s).extractLsb' 28 3 = s.bucket_i ∧
    (status s).getLsbD 31 = false

/-- Rule R216: from cursor 0 with no discard, N + k bytes leave byte i of the stream at offset i mod N, the last k of
them over the first, and the cursor at k. -/
def Obligations.WritesWrapModuloTheFrame : Prop :=
  ∀ (s : State) (vals : List Byte) (k : Nat), s.Inv → runsI s = true → s.cursor = 0 → s.discard = 0 → k < s.cfg.N →
    vals.length = s.cfg.N + k →
    ∃ t, feed (vals.map fun v => .clk_i true (encode (.writeByte v))) s = .next t ∧ t.cursor.toNat = k ∧
      (∀ a, a < k → t.next.read a = vals.getD (s.cfg.N + a) 0) ∧
      (∀ a, k ≤ a → a < s.cfg.N → t.next.read a = vals.getD a 0)

/-! ## The two steps and the handshakes (43_commands.md, 40_frame_store.md) -/

/-- How the model runs a command: when the next listed input is a clk_i edge, out of reset, with a word that decodes to a
command, the step is that command's meaning on the state after parts 1 and 2. This is the model's reading: 43_commands.md
rule R211 has every part read the registers from before the edge, and the two readings agree because parts 1 and 2 write
nothing that a command reads (DEDUCED, notes/assumptions/11.md). The list of inputs is the model's own (DESIGN CHOICE,
notes/assumptions/2.md). -/
def Obligations.StepRunsTheDecodedCommand : Prop :=
  ∀ (s : State) (w : Word) (i : Instr) (rest : List Input),
    s.inputs = .clk_i true w :: rest → runsI s = true → decode w = .ok i →
    step s = exec i (ingestParts { s with inputs := rest })

/-- How the model runs: as many steps as inputs are listed are those inputs in order. This is the model's choice and no
rule of the spec: the list `inputs` is a field of the model's own (DESIGN CHOICE, notes/assumptions/2.md), and 00_scope.md
rule R14 gives only that the edges interleave in any order. -/
def Obligations.RunsFollowTheListedInputs : Prop :=
  ∀ (s : State) (l rest : List Input),
    Host.Core.run Sys2Proof.core l.length { s with inputs := l ++ rest } = feed l { s with inputs := rest }

/-- Rules R220, R221, R226, R229 and R236: with cmd_valid = 0 the cmd bits are ignored, and the step is the launches and
the acknowledge synchronisers of every DOM_I step, all from the state before the edge. -/
def Obligations.LaunchesAndAcknowledges : Prop :=
  ∀ (s : State) (w : Word), runsI s = true → event (.clk_i false w) s = .next { s with
    pack_s1 := s.pub_ack, pack_s2 := s.pack_s1, back_s1 := s.bkt_ack, back_s2 := s.back_s1
    pub_req := if s.pub_dirty = true ∧ s.pack_s2 = s.pub_req then !s.pub_req else s.pub_req
    pub_dirty := if s.pub_dirty = true ∧ s.pack_s2 = s.pub_req then false else s.pub_dirty
    bucket_x := if s.bkt_dirty = true ∧ s.back_s2 = s.bkt_req then s.bucket_i else s.bucket_x
    bkt_req := if s.bkt_dirty = true ∧ s.back_s2 = s.bkt_req then !s.bkt_req else s.bkt_req
    bkt_dirty := if s.bkt_dirty = true ∧ s.back_s2 = s.bkt_req then false else s.bkt_dirty }

/-- 43_commands.md rule R211: a command in the step of a launch sees the state before the edge, and its own write to
`pub_dirty` or `bkt_dirty` takes effect: the launch carries the old bucket, and both marks stay for the next launch. -/
def Obligations.CommandWriteWinsOverLaunch : Prop :=
  ∀ (s : State) (val : Byte) (bkt : Bucket), runsI s = true →
    (s.pub_dirty = true → s.pack_s2 = s.pub_req → s.discard = 0 → s.cursor.toNat = s.cfg.N - 1 →
      ∃ t, event (.clk_i true (encode (.writeByte val))) s = .next t ∧ t.pub_req = !s.pub_req ∧
        t.pub_dirty = true) ∧
    (s.bkt_dirty = true → s.back_s2 = s.bkt_req →
      ∃ t, event (.clk_i true (encode (.setBucket bkt))) s = .next t ∧ t.bkt_req = !s.bkt_req ∧
        t.bucket_x = s.bucket_i ∧ t.bucket_i = bkt ∧ t.bkt_dirty = true)

/-- Rules R130, R131 and R228: in every DOM_R step the request synchronisers move on and a bucket that has arrived is
captured and acknowledged, and outside IDLE a publish that has arrived becomes pending and is acknowledged. -/
def Obligations.RenderStepTakesInRequests : Prop :=
  ∀ s t : State, runsR s = true → event .clk_r s = .next t →
    t.preq_s1 = s.pub_req ∧ t.preq_s2 = s.preq_s1 ∧ t.breq_s1 = s.bkt_req ∧ t.breq_s2 = s.breq_s1 ∧
    t.bucket_r = (if s.breq_s2 ≠ s.bkt_ack then s.bucket_x else s.bucket_r) ∧
    t.bkt_ack = (if s.breq_s2 ≠ s.bkt_ack then s.breq_s2 else s.bkt_ack) ∧
    (s.st ≠ .idle →
      t.pend_r = (if s.preq_s2 ≠ s.pub_ack then true else s.pend_r) ∧
      t.pub_ack = (if s.preq_s2 ≠ s.pub_ack then s.preq_s2 else s.pub_ack))

/-- Rules R133 and R171: the IDLE step tests and clears the swap flag, goes to COPY or SCAN, and latches the bucket as
it was before the step. No other step changes the latched bucket. -/
def Obligations.IdleStepDecidesTheSwap : Prop :=
  (∀ s : State, runsR s = true → s.st = .idle → ∃ t, event .clk_r s = .next t ∧
    t.pend_r = false ∧ t.pub_ack = s.preq_s2 ∧ t.pass_bucket = s.bucket_r ∧
    (if s.pend_r = true ∨ s.preq_s2 ≠ s.pub_ack then t.st = .copy ∧ t.k = 0
      else t.st = .scan ∧ t.p = 0 ∧ t.r = 0 ∧ t.j = 0)) ∧
  (∀ s t : State, runsR s = true → s.st ≠ .idle → event .clk_r s = .next t → t.pass_bucket = s.pass_bucket)

/-- Rules R134 and R135: COPY writes byte k of `next` to `current`, INIT writes 0x00, both go on to byte k + 1, and at
N − 1 COPY goes to SCAN and INIT to IDLE. No other byte of `current`, and none of `next`, changes. -/
def Obligations.CopyAndInitWriteOneByte : Prop :=
  ∀ s : State, s.current.wf = true → runsR s = true → s.k.toNat < s.cfg.N → (s.st = .copy ∨ s.st = .init) →
    ∃ t, event .clk_r s = .next t ∧ t.next = s.next ∧
      t.current.read s.k.toNat = (if s.st = .copy then s.next.read s.k.toNat else 0x00) ∧
      (∀ a, a ≠ s.k.toNat → t.current.read a = s.current.read a) ∧
      (if s.k.toNat = s.cfg.N - 1 then
        t.k = 0 ∧ (if s.st = .copy then t.st = .scan ∧ t.p = 0 ∧ t.r = 0 ∧ t.j = 0 else t.st = .idle)
      else t.k = s.k + 1 ∧ t.st = s.st)

/-- Rule R176: the SCAN step counts through the slot, then the rows, then the planes, and then goes to IDLE. It sets
`addr_reg` at the end of the SHIFT phase. -/
def Obligations.ScanStepCountsSlotsRowsPlanes : Prop :=
  ∀ s : State, runsR s = true → s.st = .scan → ∃ t, event .clk_r s = .next t ∧
    t.addr_reg = (if s.j + 1 = 2 * s.cfg.W * s.cfg.P then s.r else s.addr_reg) ∧
    (let S := 2 * s.cfg.W * s.cfg.P + 2 * s.cfg.P + delay s.cfg s.pass_bucket s.p
     if s.j + 1 < S then t.st = .scan ∧ t.p = s.p ∧ t.r = s.r ∧ t.j = s.j + 1
     else if s.r.toNat + 1 < s.cfg.R then t.st = .scan ∧ t.p = s.p ∧ t.r = s.r + 1 ∧ t.j = 0
     else if s.p.val < 10 then t.st = .scan ∧ t.p.val = s.p.val + 1 ∧ t.r = 0 ∧ t.j = 0
     else t.st = .idle ∧ t.p = 0 ∧ t.r = 0 ∧ t.j = 0)

/-- The frame of a clk_r edge (40_frame_store.md rules R137 and R140): it leaves the configuration, the clk_i registers,
the status word, `next` and the reset input alone, and outside INIT and COPY it leaves `current` alone. -/
def Obligations.RenderStepFrame : Prop :=
  ∀ s t : State, runsR s = true → event .clk_r s = .next t →
    t = { s with
      st := t.st, k := t.k, p := t.p, r := t.r, j := t.j, addr_reg := t.addr_reg, pass_bucket := t.pass_bucket
      bucket_r := t.bucket_r, preq_s1 := t.preq_s1, preq_s2 := t.preq_s2, pub_ack := t.pub_ack, pend_r := t.pend_r
      breq_s1 := t.breq_s1, breq_s2 := t.breq_s2, bkt_ack := t.bkt_ack, current := t.current } ∧
    status t = status s ∧
    (s.st = .idle ∨ s.st = .scan → t.current = s.current) ∧
    (s.st ≠ .idle → t.pass_bucket = s.pass_bucket) ∧ (s.st ≠ .scan → t.addr_reg = s.addr_reg)

/-- 43_commands.md rule R222: after a launch, DOM_R takes the flip in at its third step and not before, whatever DOM_I does
in between. From there the next launch comes at the third DOM_I step at the earliest. -/
def Obligations.PublishCrossesInThreeAndThreeSteps : Prop :=
  ∀ (s : State) (l : List Input), s.Inv → runsI s = true → runsR s = true → noReset l = true →
    (s.pub_req ≠ s.preq_s1 → ∃ t, feed l s = .next t ∧
      (renderEdges l < 3 → t.pub_ack ≠ s.pub_req ∧ t.pub_req = s.pub_req) ∧
      (renderEdges l = 3 → t.pub_ack = s.pub_req)) ∧
    (s.pub_ack = s.pub_req → s.pack_s1 ≠ s.pub_req → ∃ t, feed l s = .next t ∧
      (ingestEdges l < 3 → t.pub_req = s.pub_req) ∧
      (ingestEdges l = 2 → t.pack_s2 = s.pub_req))

/-- 43_commands.md rule R230: with no further SET_BUCKET and no reset, the last bucket accepted is in `bucket_r` after
three clk_r edges, then three clk_i edges (an outstanding transfer ends, and the third edge launches), then three clk_r
edges, whatever other edges fall between them, and an IDLE then latches it. -/
def Obligations.LastBucketArrives : Prop :=
  ∀ (s : State) (l1 l2 l3 : List Input), s.Inv → runsI s = true → runsR s = true →
    noReset (l1 ++ l2 ++ l3) = true →
    (∀ e ∈ l1 ++ l2 ++ l3, ∀ b, presented e ≠ some (.setBucket b)) →
    3 ≤ renderEdges l1 → 3 ≤ ingestEdges l2 → 3 ≤ renderEdges l3 →
    ∃ t, feed (l1 ++ l2 ++ l3) s = .next t ∧ t.bucket_r = s.bucket_i ∧
      (t.st = .idle → ∃ u, event .clk_r t = .next u ∧ u.pass_bucket = s.bucket_i)

/-- 40_frame_store.md rule R139: neither domain waits for the other. A command changes no pin and no register of the scan,
and completes in its step whatever DOM_R is doing. A DOM_R step depends on no clk_i register in what it does to the scan:
states that agree on the render registers agree on them after it. -/
def Obligations.NeitherDomainWaitsForTheOther : Prop :=
  (∀ (s : State) (v : Bool) (w : Word), s.Inv → ∃ t, event (.clk_i v w) s = .next t ∧ pins t = pins s ∧
    t.st = s.st ∧ t.k = s.k ∧ t.p = s.p ∧ t.r = s.r ∧ t.j = s.j ∧ t.addr_reg = s.addr_reg ∧
    t.pass_bucket = s.pass_bucket ∧ t.bucket_r = s.bucket_r ∧ t.pend_r = s.pend_r ∧ t.pub_ack = s.pub_ack ∧
    t.current = s.current) ∧
  (∀ s s' t t' : State, runsR s = true → runsR s' = true →
    (s.cfg, s.st, s.k, s.p, s.r, s.j, s.addr_reg, s.pass_bucket, s.bucket_r, s.pend_r, s.preq_s2, s.pub_ack) =
      (s'.cfg, s'.st, s'.k, s'.p, s'.r, s'.j, s'.addr_reg, s'.pass_bucket, s'.bucket_r, s'.pend_r, s'.preq_s2,
        s'.pub_ack) →
    event .clk_r s = .next t → event .clk_r s' = .next t' →
    (t.st, t.k, t.p, t.r, t.j, t.addr_reg, t.pass_bucket, t.pend_r, t.pub_ack) =
      (t'.st, t'.k, t'.p, t'.r, t'.j, t'.addr_reg, t'.pass_bucket, t'.pend_r, t'.pub_ack))

/-! ## The pins (42_scan.md, 30_encoding.md) -/

/-- Rules R173 and R175: the pins of every cycle, dark outside SCAN and in reset, and in SCAN by the phase of j. -/
def Obligations.PinsFollowThePhases : Prop :=
  ∀ s : State,
    (s.st ≠ .scan → pins s = ⟨0, false, s.addr_reg, false, true⟩) ∧
    (s.Inv → runsR s = false → pins s = ⟨0, false, s.addr_reg, false, true⟩) ∧
    (s.st = .scan →
      let T := 2 * s.cfg.W * s.cfg.P
      (s.j < T → pins s =
        ⟨colourWord s.cfg s.current s.p s.r.toNat (s.j / (2 * s.cfg.P)), decide (s.cfg.P ≤ s.j % (2 * s.cfg.P)),
          s.addr_reg, false, true⟩) ∧
      (T ≤ s.j → s.j < T + s.cfg.P → pins s = ⟨0, false, s.addr_reg, false, true⟩) ∧
      (T + s.cfg.P ≤ s.j → s.j < T + 2 * s.cfg.P → pins s = ⟨0, false, s.addr_reg, true, true⟩) ∧
      (T + 2 * s.cfg.P ≤ s.j → pins s = ⟨0, false, s.addr_reg, false, false⟩))

/-- Rules R178 and R111: bit p of the gamma values of the top pixel (frame row r) on lines 0, 1 and 2 and of the bottom
pixel (frame row r + R) on lines 3, 4 and 5, each in the order R, G, B. -/
def Obligations.ColourWordTakesSixGammaBits : Prop :=
  ∀ (c : Config) (m : Memory) (p : Plane) (r x : Nat),
    let top := 3 * (r * c.W + x)
    let bot := 3 * ((r + c.H / 2) * c.W + x)
    (colourWord c m p r x).getLsbD 0 = (gamma c .red (m.read top)).getLsbD p.val ∧
    (colourWord c m p r x).getLsbD 1 = (gamma c .green (m.read (top + 1))).getLsbD p.val ∧
    (colourWord c m p r x).getLsbD 2 = (gamma c .blue (m.read (top + 2))).getLsbD p.val ∧
    (colourWord c m p r x).getLsbD 3 = (gamma c .red (m.read bot)).getLsbD p.val ∧
    (colourWord c m p r x).getLsbD 4 = (gamma c .green (m.read (bot + 1))).getLsbD p.val ∧
    (colourWord c m p r x).getLsbD 5 = (gamma c .blue (m.read (bot + 2))).getLsbD p.val

/-- Rules R182 and R183: over the cycles of a slot, OE_N is 0 in exactly the d cycles after the LAT phase, and in no cycle
outside SCAN. With d = 0 the slot has no such cycle and ends with its LAT phase. -/
def Obligations.HoldLightsForItsDelay : Prop :=
  (∀ s : State, s.st = .scan →
    let S := slotLength s.cfg s.pass_bucket s.p
    let d := delay s.cfg s.pass_bucket s.p
    let T := 2 * s.cfg.W * s.cfg.P + 2 * s.cfg.P
    S = T + d ∧
    ((List.range S).countP fun j => (pins { s with j := j }).OE_N == false) = d ∧
    (∀ j, j < S → ((pins { s with j := j }).OE_N = false ↔ T ≤ j)) ∧
    (d = 0 → S = T ∧ ∀ j, j < S → (pins { s with j := j }).OE_N = true)) ∧
  (∀ s : State, s.st ≠ .scan → (pins s).OE_N = true)

/-- Rules R181 and R184: every slot has one LAT pulse of P cycles, after the shifting and in the dark with PCLK low, and W
PCLK pulses of P cycles, one a column, with the column's word on RGB for the P cycles before and through the pulse. -/
def Obligations.OneLatchPulseAndWClockPulses : Prop :=
  (∀ s : State, s.st = .scan →
    let S := slotLength s.cfg s.pass_bucket s.p
    let T := 2 * s.cfg.W * s.cfg.P
    let at' := fun j => pins { s with j := j }
    ((List.range S).countP fun j => (at' j).LAT) = s.cfg.P ∧
    (∀ j, (at' j).LAT = true ↔ T + s.cfg.P ≤ j ∧ j < T + 2 * s.cfg.P) ∧
    (∀ j, (at' j).LAT = true → (at' j).OE_N = true ∧ (at' j).PCLK = false) ∧
    ((List.range S).countP fun j => (at' j).PCLK && (j == 0 || (at' (j - 1)).PCLK == false)) = s.cfg.W ∧
    (∀ x i, x < s.cfg.W → i < 2 * s.cfg.P →
      (at' (2 * s.cfg.P * x + i)).RGB = colourWord s.cfg s.current s.p s.r.toNat x ∧
      ((at' (2 * s.cfg.P * x + i)).PCLK = true ↔ s.cfg.P ≤ i)) ∧
    (∀ j, T ≤ j → (at' j).PCLK = false)) ∧
  (∀ s : State, s.st ≠ .scan → (pins s).LAT = false ∧ (pins s).PCLK = false)

/-- Rule R180: ADDR takes the row at the step into the slot's ADDR phase, at no other step, and only in the dark. It shows
the slot's row from then on, and it is 0 after reset. -/
def Obligations.AddressChangesInTheDark : Prop :=
  (∀ s t : State, s.Inv → runsR s = true → event .clk_r s = .next t →
    (pins t).ADDR = (if s.st = .scan ∧ s.j + 1 = 2 * s.cfg.W * s.cfg.P then s.r else (pins s).ADDR) ∧
    ((pins t).ADDR ≠ (pins s).ADDR → (pins s).OE_N = true ∧ (pins t).OE_N = true) ∧
    (t.st = .scan → 2 * t.cfg.W * t.cfg.P ≤ t.j → (pins t).ADDR = t.r)) ∧
  (∀ c : Config, (pins (State.resetOf c)).ADDR = 0)

/-- Rules R193 and R194: over an all-zero frame RGB is 0 in every cycle. Over a uniform frame every word of a plane is the
same, and its two halves agree. -/
def Obligations.ZeroAndUniformFrames : Prop :=
  (∀ s : State, s.Inv → (∀ a, a < s.cfg.N → s.current.read a = 0) → (pins s).RGB = 0) ∧
  (∀ (c : Config) (m : Memory) (red green blue : Byte),
    (∀ y x, y < c.H → x < c.W → m.read (frameOffset c y x .red) = red ∧ m.read (frameOffset c y x .green) = green ∧
      m.read (frameOffset c y x .blue) = blue) →
    ∀ (p : Plane) (r x : Nat), r < c.R → x < c.W →
      let half := BitVec.ofBool ((gamma c .blue blue).getLsbD p.val) ++
        BitVec.ofBool ((gamma c .green green).getLsbD p.val) ++ BitVec.ofBool ((gamma c .red red).getLsbD p.val)
      colourWord c m p r x = half ++ half)

/-! ## Timing and determinism of the scan (42_scan.md)
The cycles of a pass are numbered from 0, the IDLE cycle: the cycle n of a pass is the state after n clk_r edges. -/

/-- Rule R189: a pass lasts T_pass(b, take) clk_r cycles from its IDLE cycle to the next, whatever clk_i does, and the
longest is T_pass(7, true). -/
def Obligations.PassLastsItsLength : Prop :=
  (∀ (s : State) (l : List Input), s.Inv → runsR s = true → s.st = .idle → noReset l = true →
    let T := 1 + (if s.pend_r = true ∨ s.preq_s2 ≠ s.pub_ack then s.cfg.N else 0)
      + s.cfg.R * (11 * (2 * s.cfg.P * (s.cfg.W + 1)) + ((List.finRange 11).map fun p => delay s.cfg s.bucket_r p).sum)
    ∃ t, feed l s = .next t ∧
      (0 < renderEdges l → renderEdges l < T → t.st ≠ .idle) ∧ (renderEdges l = T → t.st = .idle)) ∧
  (∀ (c : Config) (b : Bucket) (take : Bool), passLength c b take ≤ passLength c 7 true)

/-- Rule R187: slot (p, r) starts in its cycle of the pass, and its HOLD cycles are the ones from 2P(W+1) on, whatever
clk_i does. -/
def Obligations.SlotsStartOnTime : Prop :=
  ∀ (s : State) (l : List Input) (p : Plane) (r i : Nat), s.Inv → runsR s = true → s.st = .idle → noReset l = true →
    r < s.cfg.R → i < slotLength s.cfg s.bucket_r p →
    renderEdges l = slotStart s.cfg s.bucket_r (swapTaken s) p r + i →
    ∃ t, feed l s = .next t ∧ t.st = .scan ∧ t.p = p ∧ t.r.toNat = r ∧ t.j = i ∧ t.pass_bucket = s.bucket_r ∧
      ((pins t).OE_N = false ↔ 2 * s.cfg.P * (s.cfg.W + 1) ≤ i)

/-- Rule R195: the configuration, the bucket, the swap decision, `addr_reg` at the start of a pass and `current` where SCAN
begins fix the pins of every cycle of the pass, whatever clk_i does and whatever else the two states hold. Up to SCAN the
pins are dark with ADDR held. -/
def Obligations.PassIsDeterministic : Prop :=
  ∀ s s' : State, s.Inv → s'.Inv → runsR s = true → runsR s' = true → s.st = .idle → s'.st = .idle →
    s.cfg = s'.cfg → s.bucket_r = s'.bucket_r → swapTaken s = swapTaken s' → s.addr_reg = s'.addr_reg →
    (∀ (l : List Input) (t : State), noReset l = true → renderEdges l < scanStart s.cfg (swapTaken s) →
      feed l s = .next t → pins t = ⟨0, false, s.addr_reg, false, true⟩) ∧
    (∀ (l l' m m' : List Input) (u u' t t' : State), noReset (l ++ m) = true → noReset (l' ++ m') = true →
      renderEdges l = scanStart s.cfg (swapTaken s) → renderEdges l' = scanStart s.cfg (swapTaken s) →
      feed l s = .next u → feed l' s' = .next u' → u.current = u'.current →
      renderEdges m = renderEdges m' →
      scanStart s.cfg (swapTaken s) + renderEdges m ≤ passLength s.cfg s.bucket_r (swapTaken s) →
      feed m u = .next t → feed m' u' = .next t' → pins t = pins t')

/-! ## What the panel shows (42_scan.md rules R190 to R192)
The panel is outside the block. Its observer model is general knowledge (42_scan.md rule R190; notes/assumptions/9.md). -/

/-- 42_scan.md rule R190, its last sentence: during the HOLD of a slot the latches hold the W words of that slot and ADDR
is its row, whatever the panel held before and whatever clk_i does. -/
def Obligations.HoldShowsTheSlotsWords : Prop :=
  ∀ (s : State) (q : Panel) (l : List Input) (y x : Nat) (ch : Channel), s.Inv → runsR s = true → s.st = .scan →
    s.j = 0 → noReset l = true → 2 * s.cfg.P * (s.cfg.W + 1) ≤ renderEdges l →
    renderEdges l < slotLength s.cfg s.pass_bucket s.p →
    ∃ t q' n, watch y x ch l s q 0 = some (t, q', n) ∧ (pins t).OE_N = false ∧ (pins t).ADDR = s.r ∧
      ∀ col, col < s.cfg.W → q'.word s.cfg col = colourWord s.cfg s.current s.p s.r.toNat col

/-- 42_scan.md rule R191: in one pass the LED of a channel of a pixel is lit for L(ch, v, b) cycles, where v is its byte of
`current`: each plane for its delay where the gamma value has the plane's bit. -/
def Obligations.LitTimePerPass : Prop :=
  ∀ (s : State) (q : Panel) (l : List Input) (y x : Nat) (ch : Channel), s.Inv → runsR s = true → s.st = .idle →
    noReset l = true → y < s.cfg.H → x < s.cfg.W → renderEdges l = passLength s.cfg s.bucket_r (swapTaken s) →
    ∃ t q' n, watch y x ch l s q 0 = some (t, q', n) ∧
      n = ((List.finRange 11).map fun p =>
        ((gamma s.cfg ch (t.current.read (frameOffset s.cfg y x ch))).getLsbD p.val).toNat *
          delay s.cfg s.bucket_r p).sum

/-- 42_scan.md rule R192: a brighter bucket never lights less. A brighter value never lights less where every plane's delay
is at least the sum of those below it, and without that premise it can. -/
def Obligations.BrighterNeverLightsLess : Prop :=
  (∀ (c : Config) (ch : Channel) (v : Byte) (b b' : Bucket), b ≤ b' → litTime c ch v b ≤ litTime c ch v b') ∧
  (∀ (c : Config) (ch : Channel),
    (∀ (b : Bucket) (p : Plane), (((List.finRange 11).filter fun q => decide (q < p)).map fun q => delay c b q).sum
      ≤ delay c b p) →
    ∀ (v v' : Byte) (b : Bucket), v ≤ v' → litTime c ch v b ≤ litTime c ch v' b) ∧
  (∃ (c : Config) (ch : Channel) (v v' : Byte) (b : Bucket), v ≤ v' ∧ litTime c ch v' b < litTime c ch v b)

/-! ## The invariant and the whole machine -/

/-- Every step keeps the invariant of the block (Safety.lean, `State.Inv`). -/
def Obligations.StepKeepsTheInvariant : Prop := ∀ s t : State, s.Inv → step s = .next t → t.Inv

/-- The state after reset meets the invariant in every configuration. -/
def Obligations.ResetMeetsTheInvariant : Prop := ∀ c : Config, (State.resetOf c).Inv

/-- 60_exceptions.md rules R248 and R257: nothing traps and nothing halts, so every step of a state that meets the
invariant has a next state. -/
def Obligations.BlockNeverStops : Prop := ∀ s : State, s.Inv → ∃ t, step s = .next t

/-- Rule R136: `current` changes only in a DOM_R step in INIT or COPY, and only IDLE leads to COPY. So a pass in SCAN scans
one snapshot. -/
def Obligations.CurrentChangesOnlyInInitAndCopy : Prop :=
  ∀ s t : State, step s = .next t →
    (t.current ≠ s.current → nextInput s = .clk_r ∧ runsR s = true ∧ (s.st = .init ∨ s.st = .copy)) ∧
    (t.st = .copy → s.st ≠ .copy → nextInput s = .clk_r ∧ s.st = .idle)

/-! ## Frames from the port to the panel (40_frame_store.md, 20_memory.md) -/

/-- 43_commands.md rule R217 and 40_frame_store.md rule R138, the ingest half: SUBMIT N and N bytes leave exactly those
bytes in `next`, and the last one publishes, whatever else but a SUBMIT or WRITE_BYTE is presented between them, whatever
DOM_R does, and wherever the cursor stood. -/
def Obligations.FrameFillsNextAndPublishes : Prop :=
  ∀ (s : State) (l : List Input) (bytes : List Byte) (val : Byte), s.Inv → runsI s = true → noReset l = true →
    bytes.length + 1 = s.cfg.N →
    frameCommands l = .submit (BitVec.ofNat 24 s.cfg.N) :: bytes.map .writeByte →
    ∃ t, feed (l ++ [.clk_i true (encode (.writeByte val))]) s = .next t ∧
      (∀ a, a < s.cfg.N → t.next.read a = (bytes ++ [val]).getD a 0) ∧
      t.cursor = 0 ∧ t.discard = 0 ∧ t.pub_dirty = true

/-- 20_memory.md rule R77 and 40_frame_store.md rule R134: a COPY takes N clk_r cycles, and byte k of `current` becomes
what `next` holds at k in the step of COPY cycle k, whatever DOM_I stores before and after. So a frame written during a
COPY is torn as the interleaving has it, and nothing is locked. -/
def Obligations.CopyReadsEachByteAtItsStep : Prop :=
  ∀ (s : State) (l : List Input), s.Inv → runsR s = true → s.st = .copy → s.k = 0 → noReset l = true →
    renderEdges l = s.cfg.N →
    ∃ t, feed l s = .next t ∧ t.st = .scan ∧
      ∀ (l1 l2 : List Input), l = l1 ++ .clk_r :: l2 →
        ∃ u, feed l1 s = .next u ∧ u.k.toNat = renderEdges l1 ∧ u.st = .copy ∧
          t.current.read (renderEdges l1) = u.next.read (renderEdges l1)

/-- 20_memory.md rules R76 and R85: after a publish, with no store since, `current` equals `next` as it stood at the
publish once nothing is waiting, in flight, pending or being copied, whatever the order of the edges, and even if clk_r
is still in reset at the publish (70_reset_and_hazards.md rule R273). -/
def Obligations.PublishedFrameIsShown : Prop :=
  ∀ (s t : State) (l : List Input), s.Inv → s.pub_dirty = true → noReset l = true →
    noStore l s = true → feed l s = .next t → nothingPending t → t.current = s.next

/-- 70_reset_and_hazards.md rules R276 and R278: a publish with no transfer outstanding is launched at the next DOM_I step,
and a COPY that starts after DOM_R has received it ends within 3 + (T_pass(7, true) − 1) + N DOM_R steps of the launch,
whatever else happens. -/
def Obligations.PublishIsCopiedInTime : Prop :=
  ∀ (s : State) (v : Bool) (w : Word) (l : List Input), s.Inv → runsI s = true → runsR s = true →
    s.pub_dirty = true → s.pack_s2 = s.pub_req → noReset l = true →
    3 + (passLength s.cfg 7 true - 1) + s.cfg.N ≤ renderEdges l →
    ∃ (l1 l2 l3 : List Input) (u t : State), l = l1 ++ l2 ++ l3 ∧ 3 ≤ renderEdges l1 ∧
      renderEdges l1 + renderEdges l2 ≤ 3 + (passLength s.cfg 7 true - 1) + s.cfg.N ∧ renderEdges l2 = s.cfg.N ∧
      feed (.clk_i v w :: l1) s = .next u ∧ u.st = .copy ∧ u.k = 0 ∧ feed l2 u = .next t ∧ t.st = .scan

/-- 40_frame_store.md rule R137: what `next` held at reset is unobservable. States that differ only in bytes of `next` not
yet written stay so in every run, with the same pins and the same status word. -/
def Obligations.NextResetContentsUnobservable : Prop :=
  (∀ (c : Config) (m : Memory), m.wf = true → m.below c.N = true →
    differOnlyInUnwritten (State.resetOf c) { State.resetOf c with next := m }) ∧
  (∀ (s s' t t' : State) (l : List Input), s.Inv → s'.Inv → differOnlyInUnwritten s s' →
    feed l s = .next t → feed l s' = .next t' →
    differOnlyInUnwritten t t' ∧ pins t = pins t' ∧ status t = status t')

/-- 70_reset_and_hazards.md rule R275: until a frame is written the panel shows nothing, whatever the memories held at
reset (10_state.md rule R56 leaves both open), whatever else is commanded and however often the block is reset: no pass
copies, every byte of `current` is 0x00 once INIT has ended, and RGB is 0 in every cycle. Rule R275 has no command at
all; that other commands change nothing here is inferred. -/
def Obligations.DarkUntilAFrameIsWritten : Prop :=
  ∀ (c : Config) (m m' : Memory) (l : List Input), m.wf = true → m.below c.N = true → m'.wf = true →
    m'.below c.N = true → (∀ e ∈ l, ∀ val, presented e ≠ some (.writeByte val)) →
    ∃ t, feed l { State.resetOf c with next := m, current := m' } = .next t ∧ t.st ≠ .copy ∧ (pins t).RGB = 0 ∧
      (t.st ≠ .init → ∀ a, a < c.N → t.current.read a = 0)

/-- 70_reset_and_hazards.md rules R276 and R278, both cases of (a): a publish is launched within three clk_r edges and
then three clk_i edges, also where it was made while a transfer was outstanding (program P6), and a COPY that starts
after DOM_R has received that launch ends within 3 + (T_pass(7, true) − 1) + N DOM_R steps of it, whatever else happens.
So no publish is lost. -/
def Obligations.EveryPublishIsLaunchedAndCopiedInTime : Prop :=
  ∀ (s : State) (la lb l : List Input), s.Inv → runsI s = true → runsR s = true → s.pub_dirty = true →
    noReset (la ++ lb ++ l) = true → 3 ≤ renderEdges la → 3 ≤ ingestEdges lb →
    3 + (passLength s.cfg 7 true - 1) + s.cfg.N ≤ renderEdges l →
    ∃ (before after' : List Input) (v : Bool) (w : Word) (launch : State),
      la ++ lb = before ++ .clk_i v w :: after' ∧ feed before s = .next launch ∧ launch.pub_dirty = true ∧
      launch.pub_req = s.pub_req ∧ launch.pack_s2 = launch.pub_req ∧
      ∃ (l1 l2 l3 : List Input) (u t : State), after' ++ l = l1 ++ l2 ++ l3 ∧ 3 ≤ renderEdges l1 ∧
        renderEdges l1 + renderEdges l2 ≤ 3 + (passLength s.cfg 7 true - 1) + s.cfg.N ∧ renderEdges l2 = s.cfg.N ∧
        feed (.clk_i v w :: l1) launch = .next u ∧ u.st = .copy ∧ u.k = 0 ∧ feed l2 u = .next t ∧ t.st = .scan
end

