-- ==== Sys2Proof/Laws/Config.lean ====
section
/-! SUPPORT. Laws/Config.lean: what the checks of a configuration give (00_scope.md rules R10 and R11). -/

namespace Sys2Proof

/-- Everything `Params.wf` says, once. -/
theorem Params.wf_iff (c : Params) : c.wf = true ↔
    (1 ≤ c.W ∧ c.W ≤ 4096) ∧ c.H % 2 = 0 ∧ (2 ≤ c.H ∧ c.H ≤ 64) ∧ 1 ≤ c.P ∧ (1 ≤ c.DELAY_W ∧ c.DELAY_W ≤ 32)
      ∧ c.ratesPositive = true ∧ c.gammaMonotone = true ∧ c.gammaZero = true ∧ c.delayFits = true
      ∧ c.delayPlaneMonotone = true ∧ c.delayBucketMonotone = true := by
  simp only [Params.wf, Params.wInRange, Params.hEven, Params.hInRange, Params.pPositive, Params.delayWInRange,
    Bool.and_eq_true, decide_eq_true_eq, and_assoc]

namespace Config

variable (c : Config)

theorem W_pos : 1 ≤ c.W := ((Params.wf_iff _).1 c.ok).1.1
theorem W_le : c.W ≤ 4096 := ((Params.wf_iff _).1 c.ok).1.2
theorem H_even : c.H % 2 = 0 := ((Params.wf_iff _).1 c.ok).2.1
theorem H_ge : 2 ≤ c.H := ((Params.wf_iff _).1 c.ok).2.2.1.1
theorem H_le : c.H ≤ 64 := ((Params.wf_iff _).1 c.ok).2.2.1.2
theorem P_pos : 1 ≤ c.P := ((Params.wf_iff _).1 c.ok).2.2.2.1

/-- R is in 1..32 (00_scope.md rule R10). -/
theorem R_pos : 1 ≤ c.R := by have := c.H_ge; unfold Params.R; omega

/-- R is in 1..32 (00_scope.md rule R10). -/
theorem R_le : c.R ≤ 32 := by have := c.H_le; unfold Params.R; omega

theorem two_R : 2 * c.R = c.H := by have := c.H_even; unfold Params.R; omega

/-- N is in 6..786432 (00_scope.md rule R10). -/
theorem N_ge : 6 ≤ c.N := by
  have h1 := c.W_pos
  have h2 := c.H_ge
  unfold Params.N
  nlinarith

/-- N is in 6..786432, so it fits the 20-bit cursor (30_encoding.md rule R106). -/
theorem N_lt : c.N < 2 ^ 20 := by
  have h1 := c.W_le
  have h2 := c.H_le
  unfold Params.N
  nlinarith

end Config

namespace Machine

theorem slotLength_pos (c : Config) (b : Bucket) (p : Plane) : shiftLength c + 2 * c.P ≤ slotLength c b p := by
  unfold slotLength; omega

/-- The ADDR phase begins inside the slot, and not with it. -/
theorem shiftLength_pos (c : Config) : 2 ≤ shiftLength c := by
  have h1 := c.W_pos
  have h2 := c.P_pos
  unfold shiftLength
  nlinarith

end Machine

end Sys2Proof
end

