-- ==== Sys2Proof/Laws/Memory.lean ====
section
/-! SUPPORT. Laws/Memory.lean: the laws of a byte memory: a read after a write, and the canonical form. -/

namespace Sys2Proof.Machine

@[simp] theorem Memory.read_nil (a : Nat) : Memory.read [] a = Memory.unlisted := rfl

theorem Memory.wfFrom_cons {lo a : Nat} {v : Byte} {m : Memory} :
    Memory.wfFrom lo ((a, v) :: m) = true ↔ lo ≤ a ∧ v ≠ Memory.unlisted ∧ Memory.wfFrom (a + 1) m = true := by
  simp [Memory.wfFrom, and_assoc]

theorem Memory.wfFrom_weaken {lo lo' : Nat} {m : Memory} (h : lo' ≤ lo) (hm : Memory.wfFrom lo m = true) :
    Memory.wfFrom lo' m = true := by
  cases m with
  | nil => rfl
  | cons c m =>
    obtain ⟨h1, h2, h3⟩ := Memory.wfFrom_cons.1 hm
    exact Memory.wfFrom_cons.2 ⟨h.trans h1, h2, h3⟩

/-- An offset below every listed one is not listed. -/
theorem Memory.read_below {lo a : Nat} {m : Memory} (hm : Memory.wfFrom lo m = true) (h : a < lo) :
    m.read a = Memory.unlisted := by
  induction m generalizing lo with
  | nil => rfl
  | cons c m ih =>
    obtain ⟨b, w⟩ := c
    obtain ⟨h1, -, h3⟩ := Memory.wfFrom_cons.1 hm
    rw [Memory.read, if_neg (by omega)]
    exact ih h3 (by omega)

/-- A read after a write to the same offset gives the byte written (20_memory.md rule R78). -/
theorem Memory.read_write_same {m : Memory} (hm : m.wf = true) (a : Nat) (v : Byte) : (m.write a v).read a = v := by
  unfold Memory.wf at hm
  generalize 0 = lo at hm
  induction m generalizing lo with
  | nil => unfold Memory.write; split <;> simp_all [Memory.read]
  | cons c m ih =>
    obtain ⟨b, w⟩ := c
    obtain ⟨h1, -, h3⟩ := Memory.wfFrom_cons.1 hm
    unfold Memory.write
    by_cases hab : a < b
    · have : Memory.read ((b, w) :: m) a = Memory.unlisted :=
        Memory.read_below (Memory.wfFrom_weaken (Nat.le_refl b) (Memory.wfFrom_cons.2 ⟨Nat.le_refl b, by
          exact (Memory.wfFrom_cons.1 hm).2.1, h3⟩)) hab
      rw [if_pos hab]
      split
      · rename_i hv; rw [this, hv]
      · rw [Memory.read, if_pos rfl]
    · rw [if_neg hab]
      by_cases he : a = b
      · subst he
        rw [if_pos rfl]
        split
        · rename_i hv; rw [Memory.read_below h3 (Nat.lt_succ_self a), hv]
        · rw [Memory.read, if_pos rfl]
      · rw [if_neg he, Memory.read, if_neg he]
        exact ih _ h3

/-- A write leaves every other offset alone (20_memory.md rule R78). -/
theorem Memory.read_write_other {a b : Nat} (h : b ≠ a) (m : Memory) (v : Byte) : (m.write a v).read b = m.read b := by
  induction m with
  | nil => unfold Memory.write; split <;> simp [Memory.read, h]
  | cons c m ih =>
    obtain ⟨d, w⟩ := c
    unfold Memory.write
    by_cases h1 : a < d
    · simp only [h1, if_true]; split <;> simp [Memory.read, h]
    · by_cases h2 : a = d
      · subst h2; simp only [h1, if_false, if_true]; split <;> simp [Memory.read, h]
      · simp only [h1, h2, if_false, Memory.read, ih]

/-- A write keeps the canonical form. -/
theorem Memory.write_wfFrom {lo a : Nat} {m : Memory} (hm : Memory.wfFrom lo m = true) (ha : lo ≤ a) (v : Byte) :
    Memory.wfFrom lo (m.write a v) = true := by
  induction m generalizing lo with
  | nil => unfold Memory.write; split <;> simp_all [Memory.wfFrom]
  | cons c m ih =>
    obtain ⟨b, w⟩ := c
    obtain ⟨h1, h2, h3⟩ := Memory.wfFrom_cons.1 hm
    unfold Memory.write
    by_cases hab : a < b
    · simp only [hab, if_true]
      split
      · exact hm
      · exact Memory.wfFrom_cons.2 ⟨ha, by assumption, Memory.wfFrom_cons.2 ⟨by omega, h2, h3⟩⟩
    · by_cases he : a = b
      · subst he
        simp only [hab, if_false, if_true]
        split
        · exact Memory.wfFrom_weaken (by omega) h3
        · exact Memory.wfFrom_cons.2 ⟨ha, by assumption, h3⟩
      · simp only [hab, he, if_false]
        exact Memory.wfFrom_cons.2 ⟨h1, h2, ih h3 (by omega)⟩

/-- A write keeps the canonical form. -/
theorem Memory.write_wf {m : Memory} (hm : m.wf = true) (a : Nat) (v : Byte) : (m.write a v).wf = true :=
  Memory.write_wfFrom hm (Nat.zero_le a) v

theorem Memory.below_cons {n a : Nat} {v : Byte} {m : Memory} :
    Memory.below n ((a, v) :: m) = true ↔ a < n ∧ Memory.below n m = true := by
  simp [Memory.below]

/-- A write below n keeps every listed offset below n. -/
theorem Memory.write_below {n a : Nat} {m : Memory} (hm : m.below n = true) (ha : a < n) (v : Byte) :
    (m.write a v).below n = true := by
  induction m with
  | nil => unfold Memory.write; split <;> simp_all [Memory.below]
  | cons c m ih =>
    obtain ⟨b, w⟩ := c
    obtain ⟨hb, ht⟩ := Memory.below_cons.1 hm
    unfold Memory.write
    split
    · split
      · exact hm
      · exact Memory.below_cons.2 ⟨ha, hm⟩
    · split
      · split
        · exact ht
        · exact Memory.below_cons.2 ⟨ha, ht⟩
      · exact Memory.below_cons.2 ⟨hb, ih ht⟩

/-- An offset at n or above reads as an unlisted one where every listed offset is below n. -/
theorem Memory.read_above {n a : Nat} {m : Memory} (hm : m.below n = true) (ha : n ≤ a) :
    m.read a = Memory.unlisted := by
  induction m with
  | nil => rfl
  | cons c m ih =>
    obtain ⟨b, w⟩ := c
    obtain ⟨hb, ht⟩ := Memory.below_cons.1 hm
    rw [Memory.read, if_neg (by omega)]
    exact ih ht

theorem Memory.eq_of_read_eq_from {lo : Nat} {m m' : Memory} (hm : Memory.wfFrom lo m = true)
    (hm' : Memory.wfFrom lo m' = true) (h : ∀ a, m.read a = m'.read a) : m = m' := by
  induction m generalizing lo m' with
  | nil =>
    cases m' with
    | nil => rfl
    | cons c m' =>
      obtain ⟨b, w⟩ := c
      have := h b
      simp only [Memory.read, if_true] at this
      exact absurd this.symm (Memory.wfFrom_cons.1 hm').2.1
  | cons c m ih =>
    obtain ⟨a, v⟩ := c
    obtain ⟨h1, h2, h3⟩ := Memory.wfFrom_cons.1 hm
    cases m' with
    | nil =>
      have := h a
      simp only [Memory.read, if_true] at this
      exact absurd this h2
    | cons c' m' =>
      obtain ⟨b, w⟩ := c'
      obtain ⟨h1', h2', h3'⟩ := Memory.wfFrom_cons.1 hm'
      have hab : a = b := by
        rcases lt_trichotomy a b with hlt | heq | hgt
        · have := h a
          rw [Memory.read, if_pos rfl, Memory.read, if_neg (by omega), Memory.read_below h3' (by omega)] at this
          exact absurd this h2
        · exact heq
        · have := h b
          rw [Memory.read, if_neg (by omega), Memory.read_below h3 (by omega), Memory.read, if_pos rfl] at this
          exact absurd this.symm h2'
      subst hab
      have hvw : v = w := by simpa [Memory.read] using h a
      subst hvw
      rw [ih h3 h3' fun x => ?_]
      have := h x
      by_cases hx : x = a
      · subst hx; rw [Memory.read_below h3 (by omega), Memory.read_below h3' (by omega)]
      · simpa [Memory.read, hx] using this

/-- In canonical form, memories that read alike are equal. -/
theorem Memory.eq_of_read_eq {m m' : Memory} (hm : m.wf = true) (hm' : m'.wf = true)
    (h : ∀ a, m.read a = m'.read a) : m = m' :=
  Memory.eq_of_read_eq_from hm hm' h

/-- The reset memory is in canonical form. -/
theorem reset_memories_wf (c : Config) : (State.resetOf c).next.wf = true ∧ (State.resetOf c).current.wf = true :=
  ⟨rfl, rfl⟩

end Sys2Proof.Machine
end

