-- ==== Sys2Proof/Laws/State.lean ====
section
/-! SUPPORT. Laws/State.lean: what each update of State does to each field. -/

namespace Sys2Proof.Machine


/-! ## Parts 1 and 2 of the DOM_I step -/

@[simp] theorem ingestParts_cfg (s : State) : (ingestParts s).cfg = s.cfg := rfl
@[simp] theorem ingestParts_cursor (s : State) : (ingestParts s).cursor = s.cursor := rfl
@[simp] theorem ingestParts_discard (s : State) : (ingestParts s).discard = s.discard := rfl
@[simp] theorem ingestParts_err_cmd (s : State) : (ingestParts s).err_cmd = s.err_cmd := rfl
@[simp] theorem ingestParts_err_arg (s : State) : (ingestParts s).err_arg = s.err_arg := rfl
@[simp] theorem ingestParts_err_len (s : State) : (ingestParts s).err_len = s.err_len := rfl
@[simp] theorem ingestParts_bucket_i (s : State) : (ingestParts s).bucket_i = s.bucket_i := rfl
@[simp] theorem ingestParts_pub_dirty (s : State) : (ingestParts s).pub_dirty = if pubLaunches s then false else s.pub_dirty := rfl
@[simp] theorem ingestParts_pub_req (s : State) : (ingestParts s).pub_req = if pubLaunches s then !s.pub_req else s.pub_req := rfl
@[simp] theorem ingestParts_pack_s1 (s : State) : (ingestParts s).pack_s1 = s.pub_ack := rfl
@[simp] theorem ingestParts_pack_s2 (s : State) : (ingestParts s).pack_s2 = s.pack_s1 := rfl
@[simp] theorem ingestParts_bkt_dirty (s : State) : (ingestParts s).bkt_dirty = if bktLaunches s then false else s.bkt_dirty := rfl
@[simp] theorem ingestParts_bucket_x (s : State) : (ingestParts s).bucket_x = if bktLaunches s then s.bucket_i else s.bucket_x := rfl
@[simp] theorem ingestParts_bkt_req (s : State) : (ingestParts s).bkt_req = if bktLaunches s then !s.bkt_req else s.bkt_req := rfl
@[simp] theorem ingestParts_back_s1 (s : State) : (ingestParts s).back_s1 = s.bkt_ack := rfl
@[simp] theorem ingestParts_back_s2 (s : State) : (ingestParts s).back_s2 = s.back_s1 := rfl
@[simp] theorem ingestParts_st (s : State) : (ingestParts s).st = s.st := rfl
@[simp] theorem ingestParts_k (s : State) : (ingestParts s).k = s.k := rfl
@[simp] theorem ingestParts_p (s : State) : (ingestParts s).p = s.p := rfl
@[simp] theorem ingestParts_r (s : State) : (ingestParts s).r = s.r := rfl
@[simp] theorem ingestParts_j (s : State) : (ingestParts s).j = s.j := rfl
@[simp] theorem ingestParts_addr_reg (s : State) : (ingestParts s).addr_reg = s.addr_reg := rfl
@[simp] theorem ingestParts_pass_bucket (s : State) : (ingestParts s).pass_bucket = s.pass_bucket := rfl
@[simp] theorem ingestParts_bucket_r (s : State) : (ingestParts s).bucket_r = s.bucket_r := rfl
@[simp] theorem ingestParts_preq_s1 (s : State) : (ingestParts s).preq_s1 = s.preq_s1 := rfl
@[simp] theorem ingestParts_preq_s2 (s : State) : (ingestParts s).preq_s2 = s.preq_s2 := rfl
@[simp] theorem ingestParts_pub_ack (s : State) : (ingestParts s).pub_ack = s.pub_ack := rfl
@[simp] theorem ingestParts_pend_r (s : State) : (ingestParts s).pend_r = s.pend_r := rfl
@[simp] theorem ingestParts_breq_s1 (s : State) : (ingestParts s).breq_s1 = s.breq_s1 := rfl
@[simp] theorem ingestParts_breq_s2 (s : State) : (ingestParts s).breq_s2 = s.breq_s2 := rfl
@[simp] theorem ingestParts_bkt_ack (s : State) : (ingestParts s).bkt_ack = s.bkt_ack := rfl
@[simp] theorem ingestParts_next (s : State) : (ingestParts s).next = s.next := rfl
@[simp] theorem ingestParts_current (s : State) : (ingestParts s).current = s.current := rfl
@[simp] theorem ingestParts_rst_n (s : State) : (ingestParts s).rst_n = s.rst_n := rfl
@[simp] theorem ingestParts_rsync_i1 (s : State) : (ingestParts s).rsync_i1 = s.rsync_i1 := rfl
@[simp] theorem ingestParts_rsync_i2 (s : State) : (ingestParts s).rsync_i2 = s.rsync_i2 := rfl
@[simp] theorem ingestParts_rsync_r1 (s : State) : (ingestParts s).rsync_r1 = s.rsync_r1 := rfl
@[simp] theorem ingestParts_rsync_r2 (s : State) : (ingestParts s).rsync_r2 = s.rsync_r2 := rfl
@[simp] theorem ingestParts_inputs (s : State) : (ingestParts s).inputs = s.inputs := rfl
@[simp] theorem ingestParts_tick (s : State) : (ingestParts s).tick = s.tick := rfl

/-! ## The parts of the DOM_R step in every state -/

@[simp] theorem renderParts_cfg (s : State) : (renderParts s).cfg = s.cfg := rfl
@[simp] theorem renderParts_cursor (s : State) : (renderParts s).cursor = s.cursor := rfl
@[simp] theorem renderParts_discard (s : State) : (renderParts s).discard = s.discard := rfl
@[simp] theorem renderParts_err_cmd (s : State) : (renderParts s).err_cmd = s.err_cmd := rfl
@[simp] theorem renderParts_err_arg (s : State) : (renderParts s).err_arg = s.err_arg := rfl
@[simp] theorem renderParts_err_len (s : State) : (renderParts s).err_len = s.err_len := rfl
@[simp] theorem renderParts_bucket_i (s : State) : (renderParts s).bucket_i = s.bucket_i := rfl
@[simp] theorem renderParts_pub_dirty (s : State) : (renderParts s).pub_dirty = s.pub_dirty := rfl
@[simp] theorem renderParts_pub_req (s : State) : (renderParts s).pub_req = s.pub_req := rfl
@[simp] theorem renderParts_pack_s1 (s : State) : (renderParts s).pack_s1 = s.pack_s1 := rfl
@[simp] theorem renderParts_pack_s2 (s : State) : (renderParts s).pack_s2 = s.pack_s2 := rfl
@[simp] theorem renderParts_bkt_dirty (s : State) : (renderParts s).bkt_dirty = s.bkt_dirty := rfl
@[simp] theorem renderParts_bucket_x (s : State) : (renderParts s).bucket_x = s.bucket_x := rfl
@[simp] theorem renderParts_bkt_req (s : State) : (renderParts s).bkt_req = s.bkt_req := rfl
@[simp] theorem renderParts_back_s1 (s : State) : (renderParts s).back_s1 = s.back_s1 := rfl
@[simp] theorem renderParts_back_s2 (s : State) : (renderParts s).back_s2 = s.back_s2 := rfl
@[simp] theorem renderParts_st (s : State) : (renderParts s).st = s.st := rfl
@[simp] theorem renderParts_k (s : State) : (renderParts s).k = s.k := rfl
@[simp] theorem renderParts_p (s : State) : (renderParts s).p = s.p := rfl
@[simp] theorem renderParts_r (s : State) : (renderParts s).r = s.r := rfl
@[simp] theorem renderParts_j (s : State) : (renderParts s).j = s.j := rfl
@[simp] theorem renderParts_addr_reg (s : State) : (renderParts s).addr_reg = s.addr_reg := rfl
@[simp] theorem renderParts_pass_bucket (s : State) : (renderParts s).pass_bucket = s.pass_bucket := rfl
@[simp] theorem renderParts_bucket_r (s : State) : (renderParts s).bucket_r = if bktArrives s then s.bucket_x else s.bucket_r := rfl
@[simp] theorem renderParts_preq_s1 (s : State) : (renderParts s).preq_s1 = s.pub_req := rfl
@[simp] theorem renderParts_preq_s2 (s : State) : (renderParts s).preq_s2 = s.preq_s1 := rfl
@[simp] theorem renderParts_pub_ack (s : State) : (renderParts s).pub_ack = s.pub_ack := rfl
@[simp] theorem renderParts_pend_r (s : State) : (renderParts s).pend_r = s.pend_r := rfl
@[simp] theorem renderParts_breq_s1 (s : State) : (renderParts s).breq_s1 = s.bkt_req := rfl
@[simp] theorem renderParts_breq_s2 (s : State) : (renderParts s).breq_s2 = s.breq_s1 := rfl
@[simp] theorem renderParts_bkt_ack (s : State) : (renderParts s).bkt_ack = if bktArrives s then s.breq_s2 else s.bkt_ack := rfl
@[simp] theorem renderParts_next (s : State) : (renderParts s).next = s.next := rfl
@[simp] theorem renderParts_current (s : State) : (renderParts s).current = s.current := rfl
@[simp] theorem renderParts_rst_n (s : State) : (renderParts s).rst_n = s.rst_n := rfl
@[simp] theorem renderParts_rsync_i1 (s : State) : (renderParts s).rsync_i1 = s.rsync_i1 := rfl
@[simp] theorem renderParts_rsync_i2 (s : State) : (renderParts s).rsync_i2 = s.rsync_i2 := rfl
@[simp] theorem renderParts_rsync_r1 (s : State) : (renderParts s).rsync_r1 = s.rsync_r1 := rfl
@[simp] theorem renderParts_rsync_r2 (s : State) : (renderParts s).rsync_r2 = s.rsync_r2 := rfl
@[simp] theorem renderParts_inputs (s : State) : (renderParts s).inputs = s.inputs := rfl
@[simp] theorem renderParts_tick (s : State) : (renderParts s).tick = s.tick := rfl

/-! ## Pending capture -/

@[simp] theorem pendCapture_cfg (pre s : State) : (pendCapture pre s).cfg = s.cfg := rfl
@[simp] theorem pendCapture_cursor (pre s : State) : (pendCapture pre s).cursor = s.cursor := rfl
@[simp] theorem pendCapture_discard (pre s : State) : (pendCapture pre s).discard = s.discard := rfl
@[simp] theorem pendCapture_err_cmd (pre s : State) : (pendCapture pre s).err_cmd = s.err_cmd := rfl
@[simp] theorem pendCapture_err_arg (pre s : State) : (pendCapture pre s).err_arg = s.err_arg := rfl
@[simp] theorem pendCapture_err_len (pre s : State) : (pendCapture pre s).err_len = s.err_len := rfl
@[simp] theorem pendCapture_bucket_i (pre s : State) : (pendCapture pre s).bucket_i = s.bucket_i := rfl
@[simp] theorem pendCapture_pub_dirty (pre s : State) : (pendCapture pre s).pub_dirty = s.pub_dirty := rfl
@[simp] theorem pendCapture_pub_req (pre s : State) : (pendCapture pre s).pub_req = s.pub_req := rfl
@[simp] theorem pendCapture_pack_s1 (pre s : State) : (pendCapture pre s).pack_s1 = s.pack_s1 := rfl
@[simp] theorem pendCapture_pack_s2 (pre s : State) : (pendCapture pre s).pack_s2 = s.pack_s2 := rfl
@[simp] theorem pendCapture_bkt_dirty (pre s : State) : (pendCapture pre s).bkt_dirty = s.bkt_dirty := rfl
@[simp] theorem pendCapture_bucket_x (pre s : State) : (pendCapture pre s).bucket_x = s.bucket_x := rfl
@[simp] theorem pendCapture_bkt_req (pre s : State) : (pendCapture pre s).bkt_req = s.bkt_req := rfl
@[simp] theorem pendCapture_back_s1 (pre s : State) : (pendCapture pre s).back_s1 = s.back_s1 := rfl
@[simp] theorem pendCapture_back_s2 (pre s : State) : (pendCapture pre s).back_s2 = s.back_s2 := rfl
@[simp] theorem pendCapture_st (pre s : State) : (pendCapture pre s).st = s.st := rfl
@[simp] theorem pendCapture_k (pre s : State) : (pendCapture pre s).k = s.k := rfl
@[simp] theorem pendCapture_p (pre s : State) : (pendCapture pre s).p = s.p := rfl
@[simp] theorem pendCapture_r (pre s : State) : (pendCapture pre s).r = s.r := rfl
@[simp] theorem pendCapture_j (pre s : State) : (pendCapture pre s).j = s.j := rfl
@[simp] theorem pendCapture_addr_reg (pre s : State) : (pendCapture pre s).addr_reg = s.addr_reg := rfl
@[simp] theorem pendCapture_pass_bucket (pre s : State) : (pendCapture pre s).pass_bucket = s.pass_bucket := rfl
@[simp] theorem pendCapture_bucket_r (pre s : State) : (pendCapture pre s).bucket_r = s.bucket_r := rfl
@[simp] theorem pendCapture_preq_s1 (pre s : State) : (pendCapture pre s).preq_s1 = s.preq_s1 := rfl
@[simp] theorem pendCapture_preq_s2 (pre s : State) : (pendCapture pre s).preq_s2 = s.preq_s2 := rfl
@[simp] theorem pendCapture_pub_ack (pre s : State) : (pendCapture pre s).pub_ack = if pubArrives pre then pre.preq_s2 else s.pub_ack := rfl
@[simp] theorem pendCapture_pend_r (pre s : State) : (pendCapture pre s).pend_r = if pubArrives pre then true else s.pend_r := rfl
@[simp] theorem pendCapture_breq_s1 (pre s : State) : (pendCapture pre s).breq_s1 = s.breq_s1 := rfl
@[simp] theorem pendCapture_breq_s2 (pre s : State) : (pendCapture pre s).breq_s2 = s.breq_s2 := rfl
@[simp] theorem pendCapture_bkt_ack (pre s : State) : (pendCapture pre s).bkt_ack = s.bkt_ack := rfl
@[simp] theorem pendCapture_next (pre s : State) : (pendCapture pre s).next = s.next := rfl
@[simp] theorem pendCapture_current (pre s : State) : (pendCapture pre s).current = s.current := rfl
@[simp] theorem pendCapture_rst_n (pre s : State) : (pendCapture pre s).rst_n = s.rst_n := rfl
@[simp] theorem pendCapture_rsync_i1 (pre s : State) : (pendCapture pre s).rsync_i1 = s.rsync_i1 := rfl
@[simp] theorem pendCapture_rsync_i2 (pre s : State) : (pendCapture pre s).rsync_i2 = s.rsync_i2 := rfl
@[simp] theorem pendCapture_rsync_r1 (pre s : State) : (pendCapture pre s).rsync_r1 = s.rsync_r1 := rfl
@[simp] theorem pendCapture_rsync_r2 (pre s : State) : (pendCapture pre s).rsync_r2 = s.rsync_r2 := rfl
@[simp] theorem pendCapture_inputs (pre s : State) : (pendCapture pre s).inputs = s.inputs := rfl
@[simp] theorem pendCapture_tick (pre s : State) : (pendCapture pre s).tick = s.tick := rfl

/-! ## Bucket latch -/

@[simp] theorem bucketLatch_cfg (pre s : State) : (bucketLatch pre s).cfg = s.cfg := rfl
@[simp] theorem bucketLatch_cursor (pre s : State) : (bucketLatch pre s).cursor = s.cursor := rfl
@[simp] theorem bucketLatch_discard (pre s : State) : (bucketLatch pre s).discard = s.discard := rfl
@[simp] theorem bucketLatch_err_cmd (pre s : State) : (bucketLatch pre s).err_cmd = s.err_cmd := rfl
@[simp] theorem bucketLatch_err_arg (pre s : State) : (bucketLatch pre s).err_arg = s.err_arg := rfl
@[simp] theorem bucketLatch_err_len (pre s : State) : (bucketLatch pre s).err_len = s.err_len := rfl
@[simp] theorem bucketLatch_bucket_i (pre s : State) : (bucketLatch pre s).bucket_i = s.bucket_i := rfl
@[simp] theorem bucketLatch_pub_dirty (pre s : State) : (bucketLatch pre s).pub_dirty = s.pub_dirty := rfl
@[simp] theorem bucketLatch_pub_req (pre s : State) : (bucketLatch pre s).pub_req = s.pub_req := rfl
@[simp] theorem bucketLatch_pack_s1 (pre s : State) : (bucketLatch pre s).pack_s1 = s.pack_s1 := rfl
@[simp] theorem bucketLatch_pack_s2 (pre s : State) : (bucketLatch pre s).pack_s2 = s.pack_s2 := rfl
@[simp] theorem bucketLatch_bkt_dirty (pre s : State) : (bucketLatch pre s).bkt_dirty = s.bkt_dirty := rfl
@[simp] theorem bucketLatch_bucket_x (pre s : State) : (bucketLatch pre s).bucket_x = s.bucket_x := rfl
@[simp] theorem bucketLatch_bkt_req (pre s : State) : (bucketLatch pre s).bkt_req = s.bkt_req := rfl
@[simp] theorem bucketLatch_back_s1 (pre s : State) : (bucketLatch pre s).back_s1 = s.back_s1 := rfl
@[simp] theorem bucketLatch_back_s2 (pre s : State) : (bucketLatch pre s).back_s2 = s.back_s2 := rfl
@[simp] theorem bucketLatch_st (pre s : State) : (bucketLatch pre s).st = s.st := rfl
@[simp] theorem bucketLatch_k (pre s : State) : (bucketLatch pre s).k = s.k := rfl
@[simp] theorem bucketLatch_p (pre s : State) : (bucketLatch pre s).p = s.p := rfl
@[simp] theorem bucketLatch_r (pre s : State) : (bucketLatch pre s).r = s.r := rfl
@[simp] theorem bucketLatch_j (pre s : State) : (bucketLatch pre s).j = s.j := rfl
@[simp] theorem bucketLatch_addr_reg (pre s : State) : (bucketLatch pre s).addr_reg = s.addr_reg := rfl
@[simp] theorem bucketLatch_pass_bucket (pre s : State) : (bucketLatch pre s).pass_bucket = pre.bucket_r := rfl
@[simp] theorem bucketLatch_bucket_r (pre s : State) : (bucketLatch pre s).bucket_r = s.bucket_r := rfl
@[simp] theorem bucketLatch_preq_s1 (pre s : State) : (bucketLatch pre s).preq_s1 = s.preq_s1 := rfl
@[simp] theorem bucketLatch_preq_s2 (pre s : State) : (bucketLatch pre s).preq_s2 = s.preq_s2 := rfl
@[simp] theorem bucketLatch_pub_ack (pre s : State) : (bucketLatch pre s).pub_ack = s.pub_ack := rfl
@[simp] theorem bucketLatch_pend_r (pre s : State) : (bucketLatch pre s).pend_r = s.pend_r := rfl
@[simp] theorem bucketLatch_breq_s1 (pre s : State) : (bucketLatch pre s).breq_s1 = s.breq_s1 := rfl
@[simp] theorem bucketLatch_breq_s2 (pre s : State) : (bucketLatch pre s).breq_s2 = s.breq_s2 := rfl
@[simp] theorem bucketLatch_bkt_ack (pre s : State) : (bucketLatch pre s).bkt_ack = s.bkt_ack := rfl
@[simp] theorem bucketLatch_next (pre s : State) : (bucketLatch pre s).next = s.next := rfl
@[simp] theorem bucketLatch_current (pre s : State) : (bucketLatch pre s).current = s.current := rfl
@[simp] theorem bucketLatch_rst_n (pre s : State) : (bucketLatch pre s).rst_n = s.rst_n := rfl
@[simp] theorem bucketLatch_rsync_i1 (pre s : State) : (bucketLatch pre s).rsync_i1 = s.rsync_i1 := rfl
@[simp] theorem bucketLatch_rsync_i2 (pre s : State) : (bucketLatch pre s).rsync_i2 = s.rsync_i2 := rfl
@[simp] theorem bucketLatch_rsync_r1 (pre s : State) : (bucketLatch pre s).rsync_r1 = s.rsync_r1 := rfl
@[simp] theorem bucketLatch_rsync_r2 (pre s : State) : (bucketLatch pre s).rsync_r2 = s.rsync_r2 := rfl
@[simp] theorem bucketLatch_inputs (pre s : State) : (bucketLatch pre s).inputs = s.inputs := rfl
@[simp] theorem bucketLatch_tick (pre s : State) : (bucketLatch pre s).tick = s.tick := rfl

/-! ## Swap decision -/

@[simp] theorem swapDecision_cfg (pre s : State) : (swapDecision pre s).cfg = s.cfg := by
  unfold swapDecision; split <;> rfl
@[simp] theorem swapDecision_cursor (pre s : State) : (swapDecision pre s).cursor = s.cursor := by
  unfold swapDecision; split <;> rfl
@[simp] theorem swapDecision_discard (pre s : State) : (swapDecision pre s).discard = s.discard := by
  unfold swapDecision; split <;> rfl
@[simp] theorem swapDecision_err_cmd (pre s : State) : (swapDecision pre s).err_cmd = s.err_cmd := by
  unfold swapDecision; split <;> rfl
@[simp] theorem swapDecision_err_arg (pre s : State) : (swapDecision pre s).err_arg = s.err_arg := by
  unfold swapDecision; split <;> rfl
@[simp] theorem swapDecision_err_len (pre s : State) : (swapDecision pre s).err_len = s.err_len := by
  unfold swapDecision; split <;> rfl
@[simp] theorem swapDecision_bucket_i (pre s : State) : (swapDecision pre s).bucket_i = s.bucket_i := by
  unfold swapDecision; split <;> rfl
@[simp] theorem swapDecision_pub_dirty (pre s : State) : (swapDecision pre s).pub_dirty = s.pub_dirty := by
  unfold swapDecision; split <;> rfl
@[simp] theorem swapDecision_pub_req (pre s : State) : (swapDecision pre s).pub_req = s.pub_req := by
  unfold swapDecision; split <;> rfl
@[simp] theorem swapDecision_pack_s1 (pre s : State) : (swapDecision pre s).pack_s1 = s.pack_s1 := by
  unfold swapDecision; split <;> rfl
@[simp] theorem swapDecision_pack_s2 (pre s : State) : (swapDecision pre s).pack_s2 = s.pack_s2 := by
  unfold swapDecision; split <;> rfl
@[simp] theorem swapDecision_bkt_dirty (pre s : State) : (swapDecision pre s).bkt_dirty = s.bkt_dirty := by
  unfold swapDecision; split <;> rfl
@[simp] theorem swapDecision_bucket_x (pre s : State) : (swapDecision pre s).bucket_x = s.bucket_x := by
  unfold swapDecision; split <;> rfl
@[simp] theorem swapDecision_bkt_req (pre s : State) : (swapDecision pre s).bkt_req = s.bkt_req := by
  unfold swapDecision; split <;> rfl
@[simp] theorem swapDecision_back_s1 (pre s : State) : (swapDecision pre s).back_s1 = s.back_s1 := by
  unfold swapDecision; split <;> rfl
@[simp] theorem swapDecision_back_s2 (pre s : State) : (swapDecision pre s).back_s2 = s.back_s2 := by
  unfold swapDecision; split <;> rfl
@[simp] theorem swapDecision_st (pre s : State) : (swapDecision pre s).st = if swapTaken pre then .copy else .scan := by
  unfold swapDecision; split <;> rfl
@[simp] theorem swapDecision_k (pre s : State) : (swapDecision pre s).k = if swapTaken pre then 0 else s.k := by
  unfold swapDecision; split <;> rfl
@[simp] theorem swapDecision_p (pre s : State) : (swapDecision pre s).p = if swapTaken pre then s.p else 0 := by
  unfold swapDecision; split <;> rfl
@[simp] theorem swapDecision_r (pre s : State) : (swapDecision pre s).r = if swapTaken pre then s.r else 0 := by
  unfold swapDecision; split <;> rfl
@[simp] theorem swapDecision_j (pre s : State) : (swapDecision pre s).j = if swapTaken pre then s.j else 0 := by
  unfold swapDecision; split <;> rfl
@[simp] theorem swapDecision_addr_reg (pre s : State) : (swapDecision pre s).addr_reg = s.addr_reg := by
  unfold swapDecision; split <;> rfl
@[simp] theorem swapDecision_pass_bucket (pre s : State) : (swapDecision pre s).pass_bucket = s.pass_bucket := by
  unfold swapDecision; split <;> rfl
@[simp] theorem swapDecision_bucket_r (pre s : State) : (swapDecision pre s).bucket_r = s.bucket_r := by
  unfold swapDecision; split <;> rfl
@[simp] theorem swapDecision_preq_s1 (pre s : State) : (swapDecision pre s).preq_s1 = s.preq_s1 := by
  unfold swapDecision; split <;> rfl
@[simp] theorem swapDecision_preq_s2 (pre s : State) : (swapDecision pre s).preq_s2 = s.preq_s2 := by
  unfold swapDecision; split <;> rfl
@[simp] theorem swapDecision_pub_ack (pre s : State) : (swapDecision pre s).pub_ack = pre.preq_s2 := by
  unfold swapDecision; split <;> rfl
@[simp] theorem swapDecision_pend_r (pre s : State) : (swapDecision pre s).pend_r = false := by
  unfold swapDecision; split <;> rfl
@[simp] theorem swapDecision_breq_s1 (pre s : State) : (swapDecision pre s).breq_s1 = s.breq_s1 := by
  unfold swapDecision; split <;> rfl
@[simp] theorem swapDecision_breq_s2 (pre s : State) : (swapDecision pre s).breq_s2 = s.breq_s2 := by
  unfold swapDecision; split <;> rfl
@[simp] theorem swapDecision_bkt_ack (pre s : State) : (swapDecision pre s).bkt_ack = s.bkt_ack := by
  unfold swapDecision; split <;> rfl
@[simp] theorem swapDecision_next (pre s : State) : (swapDecision pre s).next = s.next := by
  unfold swapDecision; split <;> rfl
@[simp] theorem swapDecision_current (pre s : State) : (swapDecision pre s).current = s.current := by
  unfold swapDecision; split <;> rfl
@[simp] theorem swapDecision_rst_n (pre s : State) : (swapDecision pre s).rst_n = s.rst_n := by
  unfold swapDecision; split <;> rfl
@[simp] theorem swapDecision_rsync_i1 (pre s : State) : (swapDecision pre s).rsync_i1 = s.rsync_i1 := by
  unfold swapDecision; split <;> rfl
@[simp] theorem swapDecision_rsync_i2 (pre s : State) : (swapDecision pre s).rsync_i2 = s.rsync_i2 := by
  unfold swapDecision; split <;> rfl
@[simp] theorem swapDecision_rsync_r1 (pre s : State) : (swapDecision pre s).rsync_r1 = s.rsync_r1 := by
  unfold swapDecision; split <;> rfl
@[simp] theorem swapDecision_rsync_r2 (pre s : State) : (swapDecision pre s).rsync_r2 = s.rsync_r2 := by
  unfold swapDecision; split <;> rfl
@[simp] theorem swapDecision_inputs (pre s : State) : (swapDecision pre s).inputs = s.inputs := by
  unfold swapDecision; split <;> rfl
@[simp] theorem swapDecision_tick (pre s : State) : (swapDecision pre s).tick = s.tick := by
  unfold swapDecision; split <;> rfl

/-! ## Scan step -/

@[simp] theorem scanStep_cfg (pre s : State) : (scanStep pre s).cfg = s.cfg := by
  unfold scanStep; repeat' split
  all_goals rfl
@[simp] theorem scanStep_cursor (pre s : State) : (scanStep pre s).cursor = s.cursor := by
  unfold scanStep; repeat' split
  all_goals rfl
@[simp] theorem scanStep_discard (pre s : State) : (scanStep pre s).discard = s.discard := by
  unfold scanStep; repeat' split
  all_goals rfl
@[simp] theorem scanStep_err_cmd (pre s : State) : (scanStep pre s).err_cmd = s.err_cmd := by
  unfold scanStep; repeat' split
  all_goals rfl
@[simp] theorem scanStep_err_arg (pre s : State) : (scanStep pre s).err_arg = s.err_arg := by
  unfold scanStep; repeat' split
  all_goals rfl
@[simp] theorem scanStep_err_len (pre s : State) : (scanStep pre s).err_len = s.err_len := by
  unfold scanStep; repeat' split
  all_goals rfl
@[simp] theorem scanStep_bucket_i (pre s : State) : (scanStep pre s).bucket_i = s.bucket_i := by
  unfold scanStep; repeat' split
  all_goals rfl
@[simp] theorem scanStep_pub_dirty (pre s : State) : (scanStep pre s).pub_dirty = s.pub_dirty := by
  unfold scanStep; repeat' split
  all_goals rfl
@[simp] theorem scanStep_pub_req (pre s : State) : (scanStep pre s).pub_req = s.pub_req := by
  unfold scanStep; repeat' split
  all_goals rfl
@[simp] theorem scanStep_pack_s1 (pre s : State) : (scanStep pre s).pack_s1 = s.pack_s1 := by
  unfold scanStep; repeat' split
  all_goals rfl
@[simp] theorem scanStep_pack_s2 (pre s : State) : (scanStep pre s).pack_s2 = s.pack_s2 := by
  unfold scanStep; repeat' split
  all_goals rfl
@[simp] theorem scanStep_bkt_dirty (pre s : State) : (scanStep pre s).bkt_dirty = s.bkt_dirty := by
  unfold scanStep; repeat' split
  all_goals rfl
@[simp] theorem scanStep_bucket_x (pre s : State) : (scanStep pre s).bucket_x = s.bucket_x := by
  unfold scanStep; repeat' split
  all_goals rfl
@[simp] theorem scanStep_bkt_req (pre s : State) : (scanStep pre s).bkt_req = s.bkt_req := by
  unfold scanStep; repeat' split
  all_goals rfl
@[simp] theorem scanStep_back_s1 (pre s : State) : (scanStep pre s).back_s1 = s.back_s1 := by
  unfold scanStep; repeat' split
  all_goals rfl
@[simp] theorem scanStep_back_s2 (pre s : State) : (scanStep pre s).back_s2 = s.back_s2 := by
  unfold scanStep; repeat' split
  all_goals rfl
@[simp] theorem scanStep_k (pre s : State) : (scanStep pre s).k = s.k := by
  unfold scanStep; repeat' split
  all_goals rfl
@[simp] theorem scanStep_addr_reg (pre s : State) : (scanStep pre s).addr_reg = if pre.j + 1 = shiftLength pre.cfg then pre.r else s.addr_reg := by
  unfold scanStep; repeat' split
  all_goals rfl
@[simp] theorem scanStep_pass_bucket (pre s : State) : (scanStep pre s).pass_bucket = s.pass_bucket := by
  unfold scanStep; repeat' split
  all_goals rfl
@[simp] theorem scanStep_bucket_r (pre s : State) : (scanStep pre s).bucket_r = s.bucket_r := by
  unfold scanStep; repeat' split
  all_goals rfl
@[simp] theorem scanStep_preq_s1 (pre s : State) : (scanStep pre s).preq_s1 = s.preq_s1 := by
  unfold scanStep; repeat' split
  all_goals rfl
@[simp] theorem scanStep_preq_s2 (pre s : State) : (scanStep pre s).preq_s2 = s.preq_s2 := by
  unfold scanStep; repeat' split
  all_goals rfl
@[simp] theorem scanStep_pub_ack (pre s : State) : (scanStep pre s).pub_ack = s.pub_ack := by
  unfold scanStep; repeat' split
  all_goals rfl
@[simp] theorem scanStep_pend_r (pre s : State) : (scanStep pre s).pend_r = s.pend_r := by
  unfold scanStep; repeat' split
  all_goals rfl
@[simp] theorem scanStep_breq_s1 (pre s : State) : (scanStep pre s).breq_s1 = s.breq_s1 := by
  unfold scanStep; repeat' split
  all_goals rfl
@[simp] theorem scanStep_breq_s2 (pre s : State) : (scanStep pre s).breq_s2 = s.breq_s2 := by
  unfold scanStep; repeat' split
  all_goals rfl
@[simp] theorem scanStep_bkt_ack (pre s : State) : (scanStep pre s).bkt_ack = s.bkt_ack := by
  unfold scanStep; repeat' split
  all_goals rfl
@[simp] theorem scanStep_next (pre s : State) : (scanStep pre s).next = s.next := by
  unfold scanStep; repeat' split
  all_goals rfl
@[simp] theorem scanStep_current (pre s : State) : (scanStep pre s).current = s.current := by
  unfold scanStep; repeat' split
  all_goals rfl
@[simp] theorem scanStep_rst_n (pre s : State) : (scanStep pre s).rst_n = s.rst_n := by
  unfold scanStep; repeat' split
  all_goals rfl
@[simp] theorem scanStep_rsync_i1 (pre s : State) : (scanStep pre s).rsync_i1 = s.rsync_i1 := by
  unfold scanStep; repeat' split
  all_goals rfl
@[simp] theorem scanStep_rsync_i2 (pre s : State) : (scanStep pre s).rsync_i2 = s.rsync_i2 := by
  unfold scanStep; repeat' split
  all_goals rfl
@[simp] theorem scanStep_rsync_r1 (pre s : State) : (scanStep pre s).rsync_r1 = s.rsync_r1 := by
  unfold scanStep; repeat' split
  all_goals rfl
@[simp] theorem scanStep_rsync_r2 (pre s : State) : (scanStep pre s).rsync_r2 = s.rsync_r2 := by
  unfold scanStep; repeat' split
  all_goals rfl
@[simp] theorem scanStep_inputs (pre s : State) : (scanStep pre s).inputs = s.inputs := by
  unfold scanStep; repeat' split
  all_goals rfl
@[simp] theorem scanStep_tick (pre s : State) : (scanStep pre s).tick = s.tick := by
  unfold scanStep; repeat' split
  all_goals rfl

/-! ## Raising an error and clearing the flags -/

@[simp] theorem raise_cfg (e : ErrorCause) (s : State) : (raise e s).cfg = s.cfg := by
  cases e <;> rfl
@[simp] theorem raise_cursor (e : ErrorCause) (s : State) : (raise e s).cursor = s.cursor := by
  cases e <;> rfl
@[simp] theorem raise_discard (e : ErrorCause) (s : State) : (raise e s).discard = s.discard := by
  cases e <;> rfl
@[simp] theorem raise_err_cmd (e : ErrorCause) (s : State) : (raise e s).err_cmd = (decide (e = .cmd) || s.err_cmd) := by
  cases e <;> rfl
@[simp] theorem raise_err_arg (e : ErrorCause) (s : State) : (raise e s).err_arg = (decide (e = .arg) || s.err_arg) := by
  cases e <;> rfl
@[simp] theorem raise_err_len (e : ErrorCause) (s : State) : (raise e s).err_len = (decide (e = .len) || s.err_len) := by
  cases e <;> rfl
@[simp] theorem raise_bucket_i (e : ErrorCause) (s : State) : (raise e s).bucket_i = s.bucket_i := by
  cases e <;> rfl
@[simp] theorem raise_pub_dirty (e : ErrorCause) (s : State) : (raise e s).pub_dirty = s.pub_dirty := by
  cases e <;> rfl
@[simp] theorem raise_pub_req (e : ErrorCause) (s : State) : (raise e s).pub_req = s.pub_req := by
  cases e <;> rfl
@[simp] theorem raise_pack_s1 (e : ErrorCause) (s : State) : (raise e s).pack_s1 = s.pack_s1 := by
  cases e <;> rfl
@[simp] theorem raise_pack_s2 (e : ErrorCause) (s : State) : (raise e s).pack_s2 = s.pack_s2 := by
  cases e <;> rfl
@[simp] theorem raise_bkt_dirty (e : ErrorCause) (s : State) : (raise e s).bkt_dirty = s.bkt_dirty := by
  cases e <;> rfl
@[simp] theorem raise_bucket_x (e : ErrorCause) (s : State) : (raise e s).bucket_x = s.bucket_x := by
  cases e <;> rfl
@[simp] theorem raise_bkt_req (e : ErrorCause) (s : State) : (raise e s).bkt_req = s.bkt_req := by
  cases e <;> rfl
@[simp] theorem raise_back_s1 (e : ErrorCause) (s : State) : (raise e s).back_s1 = s.back_s1 := by
  cases e <;> rfl
@[simp] theorem raise_back_s2 (e : ErrorCause) (s : State) : (raise e s).back_s2 = s.back_s2 := by
  cases e <;> rfl
@[simp] theorem raise_st (e : ErrorCause) (s : State) : (raise e s).st = s.st := by
  cases e <;> rfl
@[simp] theorem raise_k (e : ErrorCause) (s : State) : (raise e s).k = s.k := by
  cases e <;> rfl
@[simp] theorem raise_p (e : ErrorCause) (s : State) : (raise e s).p = s.p := by
  cases e <;> rfl
@[simp] theorem raise_r (e : ErrorCause) (s : State) : (raise e s).r = s.r := by
  cases e <;> rfl
@[simp] theorem raise_j (e : ErrorCause) (s : State) : (raise e s).j = s.j := by
  cases e <;> rfl
@[simp] theorem raise_addr_reg (e : ErrorCause) (s : State) : (raise e s).addr_reg = s.addr_reg := by
  cases e <;> rfl
@[simp] theorem raise_pass_bucket (e : ErrorCause) (s : State) : (raise e s).pass_bucket = s.pass_bucket := by
  cases e <;> rfl
@[simp] theorem raise_bucket_r (e : ErrorCause) (s : State) : (raise e s).bucket_r = s.bucket_r := by
  cases e <;> rfl
@[simp] theorem raise_preq_s1 (e : ErrorCause) (s : State) : (raise e s).preq_s1 = s.preq_s1 := by
  cases e <;> rfl
@[simp] theorem raise_preq_s2 (e : ErrorCause) (s : State) : (raise e s).preq_s2 = s.preq_s2 := by
  cases e <;> rfl
@[simp] theorem raise_pub_ack (e : ErrorCause) (s : State) : (raise e s).pub_ack = s.pub_ack := by
  cases e <;> rfl
@[simp] theorem raise_pend_r (e : ErrorCause) (s : State) : (raise e s).pend_r = s.pend_r := by
  cases e <;> rfl
@[simp] theorem raise_breq_s1 (e : ErrorCause) (s : State) : (raise e s).breq_s1 = s.breq_s1 := by
  cases e <;> rfl
@[simp] theorem raise_breq_s2 (e : ErrorCause) (s : State) : (raise e s).breq_s2 = s.breq_s2 := by
  cases e <;> rfl
@[simp] theorem raise_bkt_ack (e : ErrorCause) (s : State) : (raise e s).bkt_ack = s.bkt_ack := by
  cases e <;> rfl
@[simp] theorem raise_next (e : ErrorCause) (s : State) : (raise e s).next = s.next := by
  cases e <;> rfl
@[simp] theorem raise_current (e : ErrorCause) (s : State) : (raise e s).current = s.current := by
  cases e <;> rfl
@[simp] theorem raise_rst_n (e : ErrorCause) (s : State) : (raise e s).rst_n = s.rst_n := by
  cases e <;> rfl
@[simp] theorem raise_rsync_i1 (e : ErrorCause) (s : State) : (raise e s).rsync_i1 = s.rsync_i1 := by
  cases e <;> rfl
@[simp] theorem raise_rsync_i2 (e : ErrorCause) (s : State) : (raise e s).rsync_i2 = s.rsync_i2 := by
  cases e <;> rfl
@[simp] theorem raise_rsync_r1 (e : ErrorCause) (s : State) : (raise e s).rsync_r1 = s.rsync_r1 := by
  cases e <;> rfl
@[simp] theorem raise_rsync_r2 (e : ErrorCause) (s : State) : (raise e s).rsync_r2 = s.rsync_r2 := by
  cases e <;> rfl
@[simp] theorem raise_inputs (e : ErrorCause) (s : State) : (raise e s).inputs = s.inputs := by
  cases e <;> rfl
@[simp] theorem raise_tick (e : ErrorCause) (s : State) : (raise e s).tick = s.tick := by
  cases e <;> rfl
@[simp] theorem clearErrors_cfg (s : State) : (clearErrors s).cfg = s.cfg := rfl
@[simp] theorem clearErrors_cursor (s : State) : (clearErrors s).cursor = s.cursor := rfl
@[simp] theorem clearErrors_discard (s : State) : (clearErrors s).discard = s.discard := rfl
@[simp] theorem clearErrors_err_cmd (s : State) : (clearErrors s).err_cmd = false := rfl
@[simp] theorem clearErrors_err_arg (s : State) : (clearErrors s).err_arg = false := rfl
@[simp] theorem clearErrors_err_len (s : State) : (clearErrors s).err_len = false := rfl
@[simp] theorem clearErrors_bucket_i (s : State) : (clearErrors s).bucket_i = s.bucket_i := rfl
@[simp] theorem clearErrors_pub_dirty (s : State) : (clearErrors s).pub_dirty = s.pub_dirty := rfl
@[simp] theorem clearErrors_pub_req (s : State) : (clearErrors s).pub_req = s.pub_req := rfl
@[simp] theorem clearErrors_pack_s1 (s : State) : (clearErrors s).pack_s1 = s.pack_s1 := rfl
@[simp] theorem clearErrors_pack_s2 (s : State) : (clearErrors s).pack_s2 = s.pack_s2 := rfl
@[simp] theorem clearErrors_bkt_dirty (s : State) : (clearErrors s).bkt_dirty = s.bkt_dirty := rfl
@[simp] theorem clearErrors_bucket_x (s : State) : (clearErrors s).bucket_x = s.bucket_x := rfl
@[simp] theorem clearErrors_bkt_req (s : State) : (clearErrors s).bkt_req = s.bkt_req := rfl
@[simp] theorem clearErrors_back_s1 (s : State) : (clearErrors s).back_s1 = s.back_s1 := rfl
@[simp] theorem clearErrors_back_s2 (s : State) : (clearErrors s).back_s2 = s.back_s2 := rfl
@[simp] theorem clearErrors_st (s : State) : (clearErrors s).st = s.st := rfl
@[simp] theorem clearErrors_k (s : State) : (clearErrors s).k = s.k := rfl
@[simp] theorem clearErrors_p (s : State) : (clearErrors s).p = s.p := rfl
@[simp] theorem clearErrors_r (s : State) : (clearErrors s).r = s.r := rfl
@[simp] theorem clearErrors_j (s : State) : (clearErrors s).j = s.j := rfl
@[simp] theorem clearErrors_addr_reg (s : State) : (clearErrors s).addr_reg = s.addr_reg := rfl
@[simp] theorem clearErrors_pass_bucket (s : State) : (clearErrors s).pass_bucket = s.pass_bucket := rfl
@[simp] theorem clearErrors_bucket_r (s : State) : (clearErrors s).bucket_r = s.bucket_r := rfl
@[simp] theorem clearErrors_preq_s1 (s : State) : (clearErrors s).preq_s1 = s.preq_s1 := rfl
@[simp] theorem clearErrors_preq_s2 (s : State) : (clearErrors s).preq_s2 = s.preq_s2 := rfl
@[simp] theorem clearErrors_pub_ack (s : State) : (clearErrors s).pub_ack = s.pub_ack := rfl
@[simp] theorem clearErrors_pend_r (s : State) : (clearErrors s).pend_r = s.pend_r := rfl
@[simp] theorem clearErrors_breq_s1 (s : State) : (clearErrors s).breq_s1 = s.breq_s1 := rfl
@[simp] theorem clearErrors_breq_s2 (s : State) : (clearErrors s).breq_s2 = s.breq_s2 := rfl
@[simp] theorem clearErrors_bkt_ack (s : State) : (clearErrors s).bkt_ack = s.bkt_ack := rfl
@[simp] theorem clearErrors_next (s : State) : (clearErrors s).next = s.next := rfl
@[simp] theorem clearErrors_current (s : State) : (clearErrors s).current = s.current := rfl
@[simp] theorem clearErrors_rst_n (s : State) : (clearErrors s).rst_n = s.rst_n := rfl
@[simp] theorem clearErrors_rsync_i1 (s : State) : (clearErrors s).rsync_i1 = s.rsync_i1 := rfl
@[simp] theorem clearErrors_rsync_i2 (s : State) : (clearErrors s).rsync_i2 = s.rsync_i2 := rfl
@[simp] theorem clearErrors_rsync_r1 (s : State) : (clearErrors s).rsync_r1 = s.rsync_r1 := rfl
@[simp] theorem clearErrors_rsync_r2 (s : State) : (clearErrors s).rsync_r2 = s.rsync_r2 := rfl
@[simp] theorem clearErrors_inputs (s : State) : (clearErrors s).inputs = s.inputs := rfl
@[simp] theorem clearErrors_tick (s : State) : (clearErrors s).tick = s.tick := rfl

/-! ## Reset -/

@[simp] theorem assertReset_cfg (s : State) : (assertReset s).cfg = s.cfg := rfl
@[simp] theorem assertReset_cursor (s : State) : (assertReset s).cursor = 0 := rfl
@[simp] theorem assertReset_discard (s : State) : (assertReset s).discard = 0 := rfl
@[simp] theorem assertReset_err_cmd (s : State) : (assertReset s).err_cmd = false := rfl
@[simp] theorem assertReset_err_arg (s : State) : (assertReset s).err_arg = false := rfl
@[simp] theorem assertReset_err_len (s : State) : (assertReset s).err_len = false := rfl
@[simp] theorem assertReset_bucket_i (s : State) : (assertReset s).bucket_i = s.cfg.RESET_BUCKET := rfl
@[simp] theorem assertReset_pub_dirty (s : State) : (assertReset s).pub_dirty = false := rfl
@[simp] theorem assertReset_pub_req (s : State) : (assertReset s).pub_req = false := rfl
@[simp] theorem assertReset_pack_s1 (s : State) : (assertReset s).pack_s1 = false := rfl
@[simp] theorem assertReset_pack_s2 (s : State) : (assertReset s).pack_s2 = false := rfl
@[simp] theorem assertReset_bkt_dirty (s : State) : (assertReset s).bkt_dirty = false := rfl
@[simp] theorem assertReset_bucket_x (s : State) : (assertReset s).bucket_x = s.cfg.RESET_BUCKET := rfl
@[simp] theorem assertReset_bkt_req (s : State) : (assertReset s).bkt_req = false := rfl
@[simp] theorem assertReset_back_s1 (s : State) : (assertReset s).back_s1 = false := rfl
@[simp] theorem assertReset_back_s2 (s : State) : (assertReset s).back_s2 = false := rfl
@[simp] theorem assertReset_st (s : State) : (assertReset s).st = .init := rfl
@[simp] theorem assertReset_k (s : State) : (assertReset s).k = 0 := rfl
@[simp] theorem assertReset_p (s : State) : (assertReset s).p = 0 := rfl
@[simp] theorem assertReset_r (s : State) : (assertReset s).r = 0 := rfl
@[simp] theorem assertReset_j (s : State) : (assertReset s).j = 0 := rfl
@[simp] theorem assertReset_addr_reg (s : State) : (assertReset s).addr_reg = 0 := rfl
@[simp] theorem assertReset_pass_bucket (s : State) : (assertReset s).pass_bucket = s.cfg.RESET_BUCKET := rfl
@[simp] theorem assertReset_bucket_r (s : State) : (assertReset s).bucket_r = s.cfg.RESET_BUCKET := rfl
@[simp] theorem assertReset_preq_s1 (s : State) : (assertReset s).preq_s1 = false := rfl
@[simp] theorem assertReset_preq_s2 (s : State) : (assertReset s).preq_s2 = false := rfl
@[simp] theorem assertReset_pub_ack (s : State) : (assertReset s).pub_ack = false := rfl
@[simp] theorem assertReset_pend_r (s : State) : (assertReset s).pend_r = false := rfl
@[simp] theorem assertReset_breq_s1 (s : State) : (assertReset s).breq_s1 = false := rfl
@[simp] theorem assertReset_breq_s2 (s : State) : (assertReset s).breq_s2 = false := rfl
@[simp] theorem assertReset_bkt_ack (s : State) : (assertReset s).bkt_ack = false := rfl
@[simp] theorem assertReset_next (s : State) : (assertReset s).next = s.next := rfl
@[simp] theorem assertReset_current (s : State) : (assertReset s).current = s.current := rfl
@[simp] theorem assertReset_rst_n (s : State) : (assertReset s).rst_n = false := rfl
@[simp] theorem assertReset_rsync_i1 (s : State) : (assertReset s).rsync_i1 = false := rfl
@[simp] theorem assertReset_rsync_i2 (s : State) : (assertReset s).rsync_i2 = false := rfl
@[simp] theorem assertReset_rsync_r1 (s : State) : (assertReset s).rsync_r1 = false := rfl
@[simp] theorem assertReset_rsync_r2 (s : State) : (assertReset s).rsync_r2 = false := rfl
@[simp] theorem assertReset_inputs (s : State) : (assertReset s).inputs = s.inputs := rfl
@[simp] theorem assertReset_tick (s : State) : (assertReset s).tick = s.tick := rfl
@[simp] theorem resetEdgeI_cfg (s : State) : (resetEdgeI s).cfg = s.cfg := rfl
@[simp] theorem resetEdgeI_cursor (s : State) : (resetEdgeI s).cursor = s.cursor := rfl
@[simp] theorem resetEdgeI_discard (s : State) : (resetEdgeI s).discard = s.discard := rfl
@[simp] theorem resetEdgeI_err_cmd (s : State) : (resetEdgeI s).err_cmd = s.err_cmd := rfl
@[simp] theorem resetEdgeI_err_arg (s : State) : (resetEdgeI s).err_arg = s.err_arg := rfl
@[simp] theorem resetEdgeI_err_len (s : State) : (resetEdgeI s).err_len = s.err_len := rfl
@[simp] theorem resetEdgeI_bucket_i (s : State) : (resetEdgeI s).bucket_i = s.bucket_i := rfl
@[simp] theorem resetEdgeI_pub_dirty (s : State) : (resetEdgeI s).pub_dirty = s.pub_dirty := rfl
@[simp] theorem resetEdgeI_pub_req (s : State) : (resetEdgeI s).pub_req = s.pub_req := rfl
@[simp] theorem resetEdgeI_pack_s1 (s : State) : (resetEdgeI s).pack_s1 = s.pack_s1 := rfl
@[simp] theorem resetEdgeI_pack_s2 (s : State) : (resetEdgeI s).pack_s2 = s.pack_s2 := rfl
@[simp] theorem resetEdgeI_bkt_dirty (s : State) : (resetEdgeI s).bkt_dirty = s.bkt_dirty := rfl
@[simp] theorem resetEdgeI_bucket_x (s : State) : (resetEdgeI s).bucket_x = s.bucket_x := rfl
@[simp] theorem resetEdgeI_bkt_req (s : State) : (resetEdgeI s).bkt_req = s.bkt_req := rfl
@[simp] theorem resetEdgeI_back_s1 (s : State) : (resetEdgeI s).back_s1 = s.back_s1 := rfl
@[simp] theorem resetEdgeI_back_s2 (s : State) : (resetEdgeI s).back_s2 = s.back_s2 := rfl
@[simp] theorem resetEdgeI_st (s : State) : (resetEdgeI s).st = s.st := rfl
@[simp] theorem resetEdgeI_k (s : State) : (resetEdgeI s).k = s.k := rfl
@[simp] theorem resetEdgeI_p (s : State) : (resetEdgeI s).p = s.p := rfl
@[simp] theorem resetEdgeI_r (s : State) : (resetEdgeI s).r = s.r := rfl
@[simp] theorem resetEdgeI_j (s : State) : (resetEdgeI s).j = s.j := rfl
@[simp] theorem resetEdgeI_addr_reg (s : State) : (resetEdgeI s).addr_reg = s.addr_reg := rfl
@[simp] theorem resetEdgeI_pass_bucket (s : State) : (resetEdgeI s).pass_bucket = s.pass_bucket := rfl
@[simp] theorem resetEdgeI_bucket_r (s : State) : (resetEdgeI s).bucket_r = s.bucket_r := rfl
@[simp] theorem resetEdgeI_preq_s1 (s : State) : (resetEdgeI s).preq_s1 = s.preq_s1 := rfl
@[simp] theorem resetEdgeI_preq_s2 (s : State) : (resetEdgeI s).preq_s2 = s.preq_s2 := rfl
@[simp] theorem resetEdgeI_pub_ack (s : State) : (resetEdgeI s).pub_ack = s.pub_ack := rfl
@[simp] theorem resetEdgeI_pend_r (s : State) : (resetEdgeI s).pend_r = s.pend_r := rfl
@[simp] theorem resetEdgeI_breq_s1 (s : State) : (resetEdgeI s).breq_s1 = s.breq_s1 := rfl
@[simp] theorem resetEdgeI_breq_s2 (s : State) : (resetEdgeI s).breq_s2 = s.breq_s2 := rfl
@[simp] theorem resetEdgeI_bkt_ack (s : State) : (resetEdgeI s).bkt_ack = s.bkt_ack := rfl
@[simp] theorem resetEdgeI_next (s : State) : (resetEdgeI s).next = s.next := rfl
@[simp] theorem resetEdgeI_current (s : State) : (resetEdgeI s).current = s.current := rfl
@[simp] theorem resetEdgeI_rst_n (s : State) : (resetEdgeI s).rst_n = s.rst_n := rfl
@[simp] theorem resetEdgeI_rsync_i1 (s : State) : (resetEdgeI s).rsync_i1 = s.rst_n := rfl
@[simp] theorem resetEdgeI_rsync_i2 (s : State) : (resetEdgeI s).rsync_i2 = (s.rst_n && s.rsync_i1) := rfl
@[simp] theorem resetEdgeI_rsync_r1 (s : State) : (resetEdgeI s).rsync_r1 = s.rsync_r1 := rfl
@[simp] theorem resetEdgeI_rsync_r2 (s : State) : (resetEdgeI s).rsync_r2 = s.rsync_r2 := rfl
@[simp] theorem resetEdgeI_inputs (s : State) : (resetEdgeI s).inputs = s.inputs := rfl
@[simp] theorem resetEdgeI_tick (s : State) : (resetEdgeI s).tick = s.tick := rfl
@[simp] theorem resetEdgeR_cfg (s : State) : (resetEdgeR s).cfg = s.cfg := rfl
@[simp] theorem resetEdgeR_cursor (s : State) : (resetEdgeR s).cursor = s.cursor := rfl
@[simp] theorem resetEdgeR_discard (s : State) : (resetEdgeR s).discard = s.discard := rfl
@[simp] theorem resetEdgeR_err_cmd (s : State) : (resetEdgeR s).err_cmd = s.err_cmd := rfl
@[simp] theorem resetEdgeR_err_arg (s : State) : (resetEdgeR s).err_arg = s.err_arg := rfl
@[simp] theorem resetEdgeR_err_len (s : State) : (resetEdgeR s).err_len = s.err_len := rfl
@[simp] theorem resetEdgeR_bucket_i (s : State) : (resetEdgeR s).bucket_i = s.bucket_i := rfl
@[simp] theorem resetEdgeR_pub_dirty (s : State) : (resetEdgeR s).pub_dirty = s.pub_dirty := rfl
@[simp] theorem resetEdgeR_pub_req (s : State) : (resetEdgeR s).pub_req = s.pub_req := rfl
@[simp] theorem resetEdgeR_pack_s1 (s : State) : (resetEdgeR s).pack_s1 = s.pack_s1 := rfl
@[simp] theorem resetEdgeR_pack_s2 (s : State) : (resetEdgeR s).pack_s2 = s.pack_s2 := rfl
@[simp] theorem resetEdgeR_bkt_dirty (s : State) : (resetEdgeR s).bkt_dirty = s.bkt_dirty := rfl
@[simp] theorem resetEdgeR_bucket_x (s : State) : (resetEdgeR s).bucket_x = s.bucket_x := rfl
@[simp] theorem resetEdgeR_bkt_req (s : State) : (resetEdgeR s).bkt_req = s.bkt_req := rfl
@[simp] theorem resetEdgeR_back_s1 (s : State) : (resetEdgeR s).back_s1 = s.back_s1 := rfl
@[simp] theorem resetEdgeR_back_s2 (s : State) : (resetEdgeR s).back_s2 = s.back_s2 := rfl
@[simp] theorem resetEdgeR_st (s : State) : (resetEdgeR s).st = s.st := rfl
@[simp] theorem resetEdgeR_k (s : State) : (resetEdgeR s).k = s.k := rfl
@[simp] theorem resetEdgeR_p (s : State) : (resetEdgeR s).p = s.p := rfl
@[simp] theorem resetEdgeR_r (s : State) : (resetEdgeR s).r = s.r := rfl
@[simp] theorem resetEdgeR_j (s : State) : (resetEdgeR s).j = s.j := rfl
@[simp] theorem resetEdgeR_addr_reg (s : State) : (resetEdgeR s).addr_reg = s.addr_reg := rfl
@[simp] theorem resetEdgeR_pass_bucket (s : State) : (resetEdgeR s).pass_bucket = s.pass_bucket := rfl
@[simp] theorem resetEdgeR_bucket_r (s : State) : (resetEdgeR s).bucket_r = s.bucket_r := rfl
@[simp] theorem resetEdgeR_preq_s1 (s : State) : (resetEdgeR s).preq_s1 = s.preq_s1 := rfl
@[simp] theorem resetEdgeR_preq_s2 (s : State) : (resetEdgeR s).preq_s2 = s.preq_s2 := rfl
@[simp] theorem resetEdgeR_pub_ack (s : State) : (resetEdgeR s).pub_ack = s.pub_ack := rfl
@[simp] theorem resetEdgeR_pend_r (s : State) : (resetEdgeR s).pend_r = s.pend_r := rfl
@[simp] theorem resetEdgeR_breq_s1 (s : State) : (resetEdgeR s).breq_s1 = s.breq_s1 := rfl
@[simp] theorem resetEdgeR_breq_s2 (s : State) : (resetEdgeR s).breq_s2 = s.breq_s2 := rfl
@[simp] theorem resetEdgeR_bkt_ack (s : State) : (resetEdgeR s).bkt_ack = s.bkt_ack := rfl
@[simp] theorem resetEdgeR_next (s : State) : (resetEdgeR s).next = s.next := rfl
@[simp] theorem resetEdgeR_current (s : State) : (resetEdgeR s).current = s.current := rfl
@[simp] theorem resetEdgeR_rst_n (s : State) : (resetEdgeR s).rst_n = s.rst_n := rfl
@[simp] theorem resetEdgeR_rsync_i1 (s : State) : (resetEdgeR s).rsync_i1 = s.rsync_i1 := rfl
@[simp] theorem resetEdgeR_rsync_i2 (s : State) : (resetEdgeR s).rsync_i2 = s.rsync_i2 := rfl
@[simp] theorem resetEdgeR_rsync_r1 (s : State) : (resetEdgeR s).rsync_r1 = s.rst_n := rfl
@[simp] theorem resetEdgeR_rsync_r2 (s : State) : (resetEdgeR s).rsync_r2 = (s.rst_n && s.rsync_r1) := rfl
@[simp] theorem resetEdgeR_inputs (s : State) : (resetEdgeR s).inputs = s.inputs := rfl
@[simp] theorem resetEdgeR_tick (s : State) : (resetEdgeR s).tick = s.tick := rfl

/-! ## Taking the next input -/

@[simp] theorem takeInput_cfg (s : State) : (takeInput s).cfg = s.cfg := by
  unfold takeInput; split <;> rfl
@[simp] theorem takeInput_cursor (s : State) : (takeInput s).cursor = s.cursor := by
  unfold takeInput; split <;> rfl
@[simp] theorem takeInput_discard (s : State) : (takeInput s).discard = s.discard := by
  unfold takeInput; split <;> rfl
@[simp] theorem takeInput_err_cmd (s : State) : (takeInput s).err_cmd = s.err_cmd := by
  unfold takeInput; split <;> rfl
@[simp] theorem takeInput_err_arg (s : State) : (takeInput s).err_arg = s.err_arg := by
  unfold takeInput; split <;> rfl
@[simp] theorem takeInput_err_len (s : State) : (takeInput s).err_len = s.err_len := by
  unfold takeInput; split <;> rfl
@[simp] theorem takeInput_bucket_i (s : State) : (takeInput s).bucket_i = s.bucket_i := by
  unfold takeInput; split <;> rfl
@[simp] theorem takeInput_pub_dirty (s : State) : (takeInput s).pub_dirty = s.pub_dirty := by
  unfold takeInput; split <;> rfl
@[simp] theorem takeInput_pub_req (s : State) : (takeInput s).pub_req = s.pub_req := by
  unfold takeInput; split <;> rfl
@[simp] theorem takeInput_pack_s1 (s : State) : (takeInput s).pack_s1 = s.pack_s1 := by
  unfold takeInput; split <;> rfl
@[simp] theorem takeInput_pack_s2 (s : State) : (takeInput s).pack_s2 = s.pack_s2 := by
  unfold takeInput; split <;> rfl
@[simp] theorem takeInput_bkt_dirty (s : State) : (takeInput s).bkt_dirty = s.bkt_dirty := by
  unfold takeInput; split <;> rfl
@[simp] theorem takeInput_bucket_x (s : State) : (takeInput s).bucket_x = s.bucket_x := by
  unfold takeInput; split <;> rfl
@[simp] theorem takeInput_bkt_req (s : State) : (takeInput s).bkt_req = s.bkt_req := by
  unfold takeInput; split <;> rfl
@[simp] theorem takeInput_back_s1 (s : State) : (takeInput s).back_s1 = s.back_s1 := by
  unfold takeInput; split <;> rfl
@[simp] theorem takeInput_back_s2 (s : State) : (takeInput s).back_s2 = s.back_s2 := by
  unfold takeInput; split <;> rfl
@[simp] theorem takeInput_st (s : State) : (takeInput s).st = s.st := by
  unfold takeInput; split <;> rfl
@[simp] theorem takeInput_k (s : State) : (takeInput s).k = s.k := by
  unfold takeInput; split <;> rfl
@[simp] theorem takeInput_p (s : State) : (takeInput s).p = s.p := by
  unfold takeInput; split <;> rfl
@[simp] theorem takeInput_r (s : State) : (takeInput s).r = s.r := by
  unfold takeInput; split <;> rfl
@[simp] theorem takeInput_j (s : State) : (takeInput s).j = s.j := by
  unfold takeInput; split <;> rfl
@[simp] theorem takeInput_addr_reg (s : State) : (takeInput s).addr_reg = s.addr_reg := by
  unfold takeInput; split <;> rfl
@[simp] theorem takeInput_pass_bucket (s : State) : (takeInput s).pass_bucket = s.pass_bucket := by
  unfold takeInput; split <;> rfl
@[simp] theorem takeInput_bucket_r (s : State) : (takeInput s).bucket_r = s.bucket_r := by
  unfold takeInput; split <;> rfl
@[simp] theorem takeInput_preq_s1 (s : State) : (takeInput s).preq_s1 = s.preq_s1 := by
  unfold takeInput; split <;> rfl
@[simp] theorem takeInput_preq_s2 (s : State) : (takeInput s).preq_s2 = s.preq_s2 := by
  unfold takeInput; split <;> rfl
@[simp] theorem takeInput_pub_ack (s : State) : (takeInput s).pub_ack = s.pub_ack := by
  unfold takeInput; split <;> rfl
@[simp] theorem takeInput_pend_r (s : State) : (takeInput s).pend_r = s.pend_r := by
  unfold takeInput; split <;> rfl
@[simp] theorem takeInput_breq_s1 (s : State) : (takeInput s).breq_s1 = s.breq_s1 := by
  unfold takeInput; split <;> rfl
@[simp] theorem takeInput_breq_s2 (s : State) : (takeInput s).breq_s2 = s.breq_s2 := by
  unfold takeInput; split <;> rfl
@[simp] theorem takeInput_bkt_ack (s : State) : (takeInput s).bkt_ack = s.bkt_ack := by
  unfold takeInput; split <;> rfl
@[simp] theorem takeInput_next (s : State) : (takeInput s).next = s.next := by
  unfold takeInput; split <;> rfl
@[simp] theorem takeInput_current (s : State) : (takeInput s).current = s.current := by
  unfold takeInput; split <;> rfl
@[simp] theorem takeInput_rst_n (s : State) : (takeInput s).rst_n = s.rst_n := by
  unfold takeInput; split <;> rfl
@[simp] theorem takeInput_rsync_i1 (s : State) : (takeInput s).rsync_i1 = s.rsync_i1 := by
  unfold takeInput; split <;> rfl
@[simp] theorem takeInput_rsync_i2 (s : State) : (takeInput s).rsync_i2 = s.rsync_i2 := by
  unfold takeInput; split <;> rfl
@[simp] theorem takeInput_rsync_r1 (s : State) : (takeInput s).rsync_r1 = s.rsync_r1 := by
  unfold takeInput; split <;> rfl
@[simp] theorem takeInput_rsync_r2 (s : State) : (takeInput s).rsync_r2 = s.rsync_r2 := by
  unfold takeInput; split <;> rfl

end Sys2Proof.Machine
end

