-- ==== Sys2Proof/Laws/Ops.lean ====
section
/-! SUPPORT. Laws/Ops.lean: one lemma for each shared operation that says everything it can do. -/

namespace Sys2Proof.Machine

@[simp] theorem andThen_next (s : State) (f : State → Result) : andThen (.next s) f = f s := rfl
@[simp] theorem andThen_fault (e : Fault) (f : State → Result) : andThen (.fault e) f = .fault e := rfl
@[simp] theorem andThen_refused (e : Refusal) (f : State → Result) : andThen (.refused e) f = .refused e := rfl

theorem andThen_eq_next {x : Result} {f : State → Result} {t : State} :
    andThen x f = .next t ↔ ∃ s, x = .next s ∧ f s = .next t := by
  cases x <;> simp [andThen]

theorem writeNext_eq_next {a : Nat} {v : Byte} {s t : State} :
    writeNext a v s = .next t ↔ a < s.cfg.N ∧ t = { s with next := s.next.write a v } := by
  unfold writeNext; split <;> simp_all [eq_comm]

theorem writeCurrent_eq_next {a : Nat} {v : Byte} {s t : State} :
    writeCurrent a v s = .next t ↔ a < s.cfg.N ∧ t = { s with current := s.current.write a v } := by
  unfold writeCurrent; split <;> simp_all [eq_comm]

/-- A store answers next exactly when the cursor is in the frame (43_commands.md rules R212 and R213). -/
theorem storeByte_eq_next {val : Byte} {s t : State} :
    storeByte val s = .next t ↔ s.cursor.toNat < s.cfg.N ∧
      t = { s with
        next := s.next.write s.cursor.toNat val
        cursor := cursorAfterStore s
        pub_dirty := if cursorAtEnd s then true else s.pub_dirty } := by
  unfold storeByte storeOffset
  rw [andThen_eq_next]
  constructor
  · rintro ⟨u, hu, ht⟩
    obtain ⟨h, rfl⟩ := writeNext_eq_next.1 hu
    exact ⟨h, by simpa using ht.symm⟩
  · rintro ⟨h, rfl⟩
    exact ⟨_, writeNext_eq_next.2 ⟨h, rfl⟩, rfl⟩

/-- The cursor after a store is in the frame again (43_commands.md rule R239). -/
theorem cursorAfterStore_lt {s : State} (h : s.cursor.toNat < s.cfg.N) : (cursorAfterStore s).toNat < s.cfg.N := by
  have h1 := s.cfg.N_ge
  have h2 := s.cfg.N_lt
  unfold cursorAfterStore cursorAtEnd
  split
  · simp; omega
  · rename_i hne
    have : s.cursor.toNat ≠ s.cfg.N - 1 := by simpa using hne
    rw [BitVec.toNat_add]
    simp
    omega

/-- What a COPY step does (40_frame_store.md rule R134). -/
theorem copyStep_eq_next {pre s t : State} (hc : s.cfg = pre.cfg) : copyStep pre s = .next t ↔
    pre.k.toNat < pre.cfg.N ∧
      t = if kAtEnd pre then
        { s with
          current := s.current.write pre.k.toNat (pre.next.read pre.k.toNat)
          st := .scan, k := 0, p := 0, r := 0, j := 0 }
      else { s with
          current := s.current.write pre.k.toNat (pre.next.read pre.k.toNat)
          k := pre.k + 1 } := by
  unfold copyStep
  rw [andThen_eq_next]
  constructor
  · rintro ⟨u, hu, ht⟩
    obtain ⟨h, rfl⟩ := writeCurrent_eq_next.1 hu
    refine ⟨hc ▸ h, ?_⟩
    by_cases hk : kAtEnd pre = true
    · rw [if_pos hk] at ht ⊢; exact (Host.Outcome.next.inj ht).symm
    · rw [if_neg hk] at ht ⊢; exact (Host.Outcome.next.inj ht).symm
  · rintro ⟨h, rfl⟩
    refine ⟨_, writeCurrent_eq_next.2 ⟨hc ▸ h, rfl⟩, ?_⟩
    split <;> rfl

/-- What an INIT step does (40_frame_store.md rule R135). -/
theorem initStep_eq_next {pre s t : State} (hc : s.cfg = pre.cfg) : initStep pre s = .next t ↔
    pre.k.toNat < pre.cfg.N ∧
      t = if kAtEnd pre then { s with current := s.current.write pre.k.toNat 0, st := .idle, k := 0 }
      else { s with current := s.current.write pre.k.toNat 0, k := pre.k + 1 } := by
  unfold initStep
  rw [andThen_eq_next]
  constructor
  · rintro ⟨u, hu, ht⟩
    obtain ⟨h, rfl⟩ := writeCurrent_eq_next.1 hu
    refine ⟨hc ▸ h, ?_⟩
    by_cases hk : kAtEnd pre = true
    · rw [if_pos hk] at ht ⊢; exact (Host.Outcome.next.inj ht).symm
    · rw [if_neg hk] at ht ⊢; exact (Host.Outcome.next.inj ht).symm
  · rintro ⟨h, rfl⟩
    refine ⟨_, writeCurrent_eq_next.2 ⟨hc ▸ h, rfl⟩, ?_⟩
    split <;> rfl

/-- Where the scan position goes: on in the slot, to the next row, to the next plane, or to IDLE (42_scan.md rule
R176). -/
theorem scanStep_cases (pre s : State) :
    (pre.j + 1 < slotLength pre.cfg pre.pass_bucket pre.p ∧ (scanStep pre s).st = s.st ∧ (scanStep pre s).p = s.p
      ∧ (scanStep pre s).r = s.r ∧ (scanStep pre s).j = pre.j + 1) ∨
    (slotLength pre.cfg pre.pass_bucket pre.p ≤ pre.j + 1 ∧ pre.r.toNat + 1 < pre.cfg.R ∧ (scanStep pre s).st = s.st
      ∧ (scanStep pre s).p = s.p ∧ (scanStep pre s).r = pre.r + 1 ∧ (scanStep pre s).j = 0) ∨
    (slotLength pre.cfg pre.pass_bucket pre.p ≤ pre.j + 1 ∧ pre.cfg.R ≤ pre.r.toNat + 1 ∧ pre.p < 10
      ∧ (scanStep pre s).st = s.st ∧ (scanStep pre s).p = pre.p + 1 ∧ (scanStep pre s).r = 0
      ∧ (scanStep pre s).j = 0) ∨
    (slotLength pre.cfg pre.pass_bucket pre.p ≤ pre.j + 1 ∧ pre.cfg.R ≤ pre.r.toNat + 1 ∧ pre.p = 10
      ∧ (scanStep pre s).st = .idle ∧ (scanStep pre s).p = 0 ∧ (scanStep pre s).r = 0
      ∧ (scanStep pre s).j = 0) := by
  unfold scanStep
  by_cases h1 : pre.j + 1 < slotLength pre.cfg pre.pass_bucket pre.p
  · rw [if_pos h1]; exact .inl ⟨h1, rfl, rfl, rfl, rfl⟩
  · rw [if_neg h1]
    by_cases h2 : pre.r.toNat + 1 < pre.cfg.R
    · rw [if_pos h2]; exact .inr (.inl ⟨by omega, h2, rfl, rfl, rfl, rfl⟩)
    · rw [if_neg h2]
      by_cases h3 : pre.p < 10
      · rw [if_pos h3]; exact .inr (.inr (.inl ⟨by omega, by omega, h3, rfl, rfl, rfl, rfl⟩))
      · rw [if_neg h3]
        have hp : pre.p = 10 := le_antisymm (Fin.le_last pre.p) (not_lt.1 h3)
        exact .inr (.inr (.inr ⟨by omega, by omega, hp, rfl, rfl, rfl, rfl⟩))

/-- Everything a DOM_R step can do, one case a state of the FSM (40_frame_store.md rule R140). -/
theorem renderStep_cases {s t : State} (h : renderStep s = .next t) :
    (s.st = .init ∧ initStep s (pendCapture s (renderParts s)) = .next t) ∨
    (s.st = .idle ∧ t = bucketLatch s (swapDecision s (renderParts s))) ∨
    (s.st = .copy ∧ copyStep s (pendCapture s (renderParts s)) = .next t) ∨
    (s.st = .scan ∧ t = scanStep s (pendCapture s (renderParts s))) := by
  unfold renderStep at h
  split at h <;> simp_all [eq_comm]

/-- Everything a command can do (43_commands.md rule R238). -/
theorem exec_cases {i : Instr} {s t : State} (h : exec i s = .next t) :
    (i = .nop ∧ t = s) ∨
    (∃ v, i = .writeByte v ∧ s.discard ≠ 0 ∧ t = { s with discard := s.discard - 1 }) ∨
    (∃ v, i = .writeByte v ∧ s.discard = 0 ∧ storeByte v s = .next t) ∨
    (∃ n, i = .submit n ∧ n.toNat = s.cfg.N ∧ t = { s with cursor := 0, discard := 0 }) ∨
    (∃ n, i = .submit n ∧ n.toNat ≠ s.cfg.N ∧ t = { s with err_len := true, discard := n }) ∨
    (∃ b, i = .setBucket b ∧ t = { s with bucket_i := b, bkt_dirty := true }) ∨
    (i = .clearStatus ∧ t = clearErrors s) ∨
    (5 ≤ i.rowIndex.val ∧ t = raise .cmd s) := by
  cases i with
  | nop => exact .inl ⟨rfl, by simpa [exec, execNop, eq_comm] using h⟩
  | writeByte v =>
    simp only [exec, execWriteByte] at h
    split at h
    · rename_i hd; exact .inr (.inl ⟨v, rfl, hd, by simpa [eq_comm] using h⟩)
    · rename_i hd; exact .inr (.inr (.inl ⟨v, rfl, by simpa using hd, h⟩))
  | submit n =>
    have h : execSubmit n s = .next t := h
    unfold execSubmit at h
    by_cases hd : lenIsFrame s n = true
    · rw [if_pos hd] at h
      exact .inr (.inr (.inr (.inl ⟨n, rfl, of_decide_eq_true hd, (Host.Outcome.next.inj h).symm⟩)))
    · rw [if_neg hd] at h
      exact .inr (.inr (.inr (.inr (.inl ⟨n, rfl, of_decide_eq_false (by simpa [lenIsFrame] using hd),
        (Host.Outcome.next.inj h).symm⟩))))
  | setBucket b =>
    exact .inr (.inr (.inr (.inr (.inr (.inl ⟨b, rfl, by simpa [exec, execSetBucket, eq_comm] using h⟩)))))
  | clearStatus =>
    exact .inr (.inr (.inr (.inr (.inr (.inr (.inl ⟨rfl, by simpa [exec, execClearStatus, eq_comm] using h⟩))))))
  | _ => exact .inr (.inr (.inr (.inr (.inr (.inr (.inr ⟨Nat.le_of_ble_eq_true rfl, (Host.Outcome.next.inj h).symm⟩))))))

/-- Everything a clk_i edge can do (43_commands.md rules R211, R236 and R237). -/
theorem edgeI_cases {v : Bool} {w : Word} {s t : State} (h : edgeI v w s = .next t) :
    (runsI s = false ∧ t = resetEdgeI s) ∨
    (runsI s = true ∧ v = false ∧ t = ingestParts s) ∨
    (runsI s = true ∧ v = true ∧ decode w = .error .badArg ∧ t = raise .arg (ingestParts s)) ∨
    (runsI s = true ∧ v = true ∧ ∃ i, decode w = .ok i ∧ exec i (ingestParts s) = .next t) := by
  unfold edgeI at h
  split at h
  · rename_i hr
    unfold ingestStep at h
    split at h
    · rename_i hv
      unfold commandWord at h
      split at h
      · rename_i i hi; exact .inr (.inr (.inr ⟨hr, hv, i, hi, h⟩))
      · rename_i hi; exact .inr (.inr (.inl ⟨hr, hv, hi, by simpa [execBadArg, eq_comm] using h⟩))
    · rename_i hv; exact .inr (.inl ⟨hr, by simpa using hv, by simpa [eq_comm] using h⟩)
  · rename_i hr; exact .inl ⟨by simpa using hr, by simpa [eq_comm] using h⟩

/-- Everything a clk_r edge can do (40_frame_store.md rule R140, 70_reset_and_hazards.md rule R271). -/
theorem edgeR_cases {s t : State} (h : edgeR s = .next t) :
    (runsR s = false ∧ t = resetEdgeR s) ∨ (runsR s = true ∧ renderStep s = .next t) := by
  unfold edgeR at h
  split at h
  · rename_i hr; exact .inr ⟨hr, h⟩
  · rename_i hr; exact .inl ⟨by simpa using hr, by simpa [eq_comm] using h⟩

end Sys2Proof.Machine
end

