-- ==== Sys2Proof/Laws/Frames.lean ====
section
/-! SUPPORT. Laws/Frames.lean: what the two agents' steps leave alone, once for each agent. -/

namespace Sys2Proof.Machine

theorem pub_ack_after (s : State) : (if pubArrives s then s.preq_s2 else s.pub_ack) = s.preq_s2 := by
  unfold pubArrives; cases s.preq_s2 <;> cases s.pub_ack <;> rfl

theorem bkt_ack_after (s : State) : (if bktArrives s then s.breq_s2 else s.bkt_ack) = s.breq_s2 := by
  unfold bktArrives; cases s.breq_s2 <;> cases s.bkt_ack <;> rfl

/-- The state after the parts of a DOM_R step outside IDLE, but for the FSM's own part. -/
theorem pendCapture_renderParts (s : State) : pendCapture s (renderParts s) =
    { s with
      preq_s1 := s.pub_req, preq_s2 := s.preq_s1, pub_ack := s.preq_s2
      pend_r := if pubArrives s then true else s.pend_r
      breq_s1 := s.bkt_req, breq_s2 := s.breq_s1, bkt_ack := s.breq_s2
      bucket_r := if bktArrives s then s.bucket_x else s.bucket_r } := by
  rw [← pub_ack_after s, ← bkt_ack_after s]; rfl

/-- The handshake registers after a DOM_R step, which moves both handshakes on and leaves the clk_i registers, `next`,
the configuration, the reset input and the environment alone. -/
theorem renderStep_frame {s t : State} (h : renderStep s = .next t) :
    t = { s with
      preq_s1 := s.pub_req, preq_s2 := s.preq_s1, pub_ack := s.preq_s2
      breq_s1 := s.bkt_req, breq_s2 := s.breq_s1, bkt_ack := s.breq_s2
      bucket_r := if bktArrives s then s.bucket_x else s.bucket_r
      pend_r := t.pend_r, st := t.st, k := t.k, p := t.p, r := t.r, j := t.j
      addr_reg := t.addr_reg, pass_bucket := t.pass_bucket, current := t.current } := by
  rcases renderStep_cases h with ⟨-, h⟩ | ⟨-, rfl⟩ | ⟨-, h⟩ | ⟨-, rfl⟩
  · obtain ⟨-, rfl⟩ := (initStep_eq_next (by simp)).1 h
    rw [pendCapture_renderParts]
    by_cases hk : kAtEnd s = true
    · rw [if_pos hk]
    · rw [if_neg hk]
  · unfold swapDecision
    rw [← bkt_ack_after s]
    by_cases hk : swapTaken s = true
    · rw [if_pos hk]; rfl
    · rw [if_neg hk]; rfl
  · obtain ⟨-, rfl⟩ := (copyStep_eq_next (by simp)).1 h
    rw [pendCapture_renderParts]
    by_cases hk : kAtEnd s = true
    · rw [if_pos hk]
    · rw [if_neg hk]
  · rw [pendCapture_renderParts]
    unfold scanStep
    by_cases h1 : s.j + 1 < slotLength s.cfg s.pass_bucket s.p
    · rw [if_pos h1]
    · rw [if_neg h1]
      by_cases h2 : s.r.toNat + 1 < s.cfg.R
      · rw [if_pos h2]
      · rw [if_neg h2]
        by_cases h3 : s.p < 10
        · rw [if_pos h3]
        · rw [if_neg h3]

/-- A command writes only the nine columns of 43_commands.md rule R238. -/
theorem exec_frame {i : Instr} {s t : State} (h : exec i s = .next t) :
    t = { s with
      next := t.next, cursor := t.cursor, discard := t.discard, pub_dirty := t.pub_dirty
      bucket_i := t.bucket_i, bkt_dirty := t.bkt_dirty
      err_cmd := t.err_cmd, err_arg := t.err_arg, err_len := t.err_len } := by
  rcases exec_cases h with ⟨-, rfl⟩ | ⟨v, -, -, rfl⟩ | ⟨v, -, -, h⟩ | ⟨n, -, -, rfl⟩ | ⟨n, -, -, rfl⟩ | ⟨b, -, rfl⟩ |
    ⟨-, rfl⟩ | ⟨-, rfl⟩
  · rfl
  · rfl
  · obtain ⟨-, rfl⟩ := storeByte_eq_next.1 h; rfl
  all_goals rfl

end Sys2Proof.Machine
end

