-- ==== Sys2Proof/Laws/PerInstr.lean ====
section
/-! SUPPORT. Laws/PerInstr.lean: statements about each instruction as syntax, one lemma a constructor. -/

namespace Sys2Proof.Laws.RowMatch

/-- The instruction's word is in the instruction's own row of the opcode map (30_encoding.md rule R107). -/
def Statement (i : Instr) : Prop := encode i &&& i.row.mask = i.row.pattern

/-- A mask of n high bits keeps the high bits and clears an operand of m bits. -/
theorem and_mask {n m : Nat} (op : BitVec n) (x : BitVec m) :
    (op ++ x) &&& (BitVec.allOnes n ++ 0#m) = op ++ 0#m := by
  rw [BitVec.and_append, BitVec.and_allOnes, BitVec.and_zero]

theorem nop : Statement (.nop) := by unfold Statement; decide
theorem writeByte (val : Byte) : Statement (.writeByte val) := and_mask (0x1#4 ++ 0#20) val
theorem submit (len : BitVec 24) : Statement (.submit len) := and_mask (0x2#4 ++ 0#4) len
theorem setBucket (bkt : Bucket) : Statement (.setBucket bkt) := and_mask (0x3#4 ++ 0#25) bkt
theorem clearStatus : Statement (.clearStatus) := by unfold Statement; decide
theorem reserved5 (operand : BitVec 28) : Statement (.reserved5 operand) := and_mask 0x5#4 operand
theorem reserved6 (operand : BitVec 28) : Statement (.reserved6 operand) := and_mask 0x6#4 operand
theorem reserved7 (operand : BitVec 28) : Statement (.reserved7 operand) := and_mask 0x7#4 operand
theorem reserved8 (operand : BitVec 28) : Statement (.reserved8 operand) := and_mask 0x8#4 operand
theorem reserved9 (operand : BitVec 28) : Statement (.reserved9 operand) := and_mask 0x9#4 operand
theorem reservedA (operand : BitVec 28) : Statement (.reservedA operand) := and_mask 0xA#4 operand
theorem reservedB (operand : BitVec 28) : Statement (.reservedB operand) := and_mask 0xB#4 operand
theorem reservedC (operand : BitVec 28) : Statement (.reservedC operand) := and_mask 0xC#4 operand
theorem reservedD (operand : BitVec 28) : Statement (.reservedD operand) := and_mask 0xD#4 operand
theorem reservedE (operand : BitVec 28) : Statement (.reservedE operand) := and_mask 0xE#4 operand
theorem reservedF (operand : BitVec 28) : Statement (.reservedF operand) := and_mask 0xF#4 operand

end Sys2Proof.Laws.RowMatch
end

