-- ==== Sys2Proof/Laws/Runs.lean ====
section
/-! SUPPORT. Laws/Runs.lean: the laws of a run: what `feed` and the counts of edges do on a list taken apart. -/

namespace Sys2Proof.Machine

@[simp] theorem feed_nil (s : State) : feed [] s = .next s := rfl

theorem feed_cons (e : Input) (l : List Input) (s : State) : feed (e :: l) s = andThen (event e s) (feed l) := rfl

/-- A run of one list after another. -/
theorem feed_append (l m : List Input) (s : State) : feed (l ++ m) s = andThen (feed l s) (feed m) := by
  induction l generalizing s with
  | nil => rfl
  | cons e l ih => simp only [List.cons_append, feed_cons]; cases event e s <;> simp [andThen, ih]

theorem feed_cons_eq_next {e : Input} {l : List Input} {s t : State} :
    feed (e :: l) s = .next t ↔ ∃ u, event e s = .next u ∧ feed l u = .next t := by
  rw [feed_cons, andThen_eq_next]

theorem feed_append_eq_next {l m : List Input} {s t : State} :
    feed (l ++ m) s = .next t ↔ ∃ u, feed l s = .next u ∧ feed m u = .next t := by
  rw [feed_append, andThen_eq_next]

@[simp] theorem noReset_nil : noReset [] = true := rfl
@[simp] theorem noReset_append (l m : List Input) : noReset (l ++ m) = (noReset l && noReset m) := by
  simp [noReset]
theorem noReset_cons (e : Input) (l : List Input) :
    noReset (e :: l) = true ↔ (∀ b, e ≠ .rst_n b) ∧ noReset l = true := by
  cases e <;> simp [noReset]

@[simp] theorem renderEdges_nil : renderEdges [] = 0 := rfl
@[simp] theorem renderEdges_clk_r (l : List Input) : renderEdges (.clk_r :: l) = renderEdges l + 1 := by
  simp [renderEdges]
@[simp] theorem renderEdges_clk_i (v : Bool) (w : Word) (l : List Input) :
    renderEdges (.clk_i v w :: l) = renderEdges l := by
  simp [renderEdges]
@[simp] theorem renderEdges_append (l m : List Input) : renderEdges (l ++ m) = renderEdges l + renderEdges m := by
  simp [renderEdges]

@[simp] theorem ingestEdges_nil : ingestEdges [] = 0 := rfl
@[simp] theorem ingestEdges_clk_r (l : List Input) : ingestEdges (.clk_r :: l) = ingestEdges l := by
  simp [ingestEdges]
@[simp] theorem ingestEdges_clk_i (v : Bool) (w : Word) (l : List Input) :
    ingestEdges (.clk_i v w :: l) = ingestEdges l + 1 := by
  simp [ingestEdges]
@[simp] theorem ingestEdges_append (l m : List Input) : ingestEdges (l ++ m) = ingestEdges l + ingestEdges m := by
  simp [ingestEdges]

/-- Everything an event can do (00_scope.md rule R14). -/
theorem event_cases {e : Input} {s t : State} (h : event e s = .next t) :
    (∃ v w, e = .clk_i v w ∧ edgeI v w s = .next t) ∨ (e = .clk_r ∧ edgeR s = .next t) ∨
      (e = .rst_n true ∧ t = { s with rst_n := true }) ∨ (e = .rst_n false ∧ t = assertReset s) := by
  cases e with
  | clk_i v w => exact .inl ⟨v, w, rfl, h⟩
  | clk_r => exact .inr (.inl ⟨rfl, h⟩)
  | rst_n level =>
    have ht : driveReset level s = t := Host.Outcome.next.inj h
    cases level
    · exact .inr (.inr (.inr ⟨rfl, ht.symm⟩))
    · exact .inr (.inr (.inl ⟨rfl, ht.symm⟩))

end Sys2Proof.Machine
end

