-- ==== Sys2Proof/Machine/Assembler.lean ====
section
/-! DEFINITION. Machine/Assembler.lean: the text of a command stream (30_encoding.md rules R116 to R118): one command a
line, `;` starts a comment, and numbers are decimal or `0x` hexadecimal. `assemble` gives the words of a line that
has been read. No step of the machine uses this file. -/

namespace Sys2Proof.Machine

/-- A line without its comment (30_encoding.md rule R116). -/
def stripComment : List Char → List Char
  | [] => []
  | c :: l => if c = ';' then [] else c :: stripComment l

/-- A space between the parts of a line. -/
def isBlank (c : Char) : Bool := c == ' ' || c == '\t' || c == '\r'

/-- A line without spaces before and after. -/
def trimLine (l : List Char) : List Char := ((l.dropWhile isBlank).reverse.dropWhile isBlank).reverse

/-- The value of a digit, in hexadecimal. -/
def digitValue (c : Char) : Option Nat :=
  let n := c.toNat
  if 48 ≤ n ∧ n ≤ 57 then some (n - 48)
  else if 97 ≤ n ∧ n ≤ 102 then some (n - 87)
  else if 65 ≤ n ∧ n ≤ 70 then some (n - 55)
  else none

/-- The number that the digits spell after the value `acc`, in the base. -/
def digitsValue (base : Nat) : Nat → List Char → Option Nat
  | acc, [] => some acc
  | acc, c :: l =>
    match digitValue c with
    | some d => if d < base then digitsValue base (acc * base + d) l else none
    | none => none

/-- A number, decimal or `0x` hexadecimal (30_encoding.md rule R116). -/
def parseNumber (l : List Char) : Option Nat :=
  match l with
  | [] => none
  | '0' :: 'x' :: ds => if ds = [] then none else digitsValue 16 0 ds
  | ds => digitsValue 10 0 ds

/-- The parts of a list between commas. -/
def splitCommas : List Char → List (List Char)
  | [] => [[]]
  | c :: l =>
    if c = ',' then [] :: splitCommas l
    else
      match splitCommas l with
      | [] => [[c]]
      | part :: parts => (c :: part) :: parts

/-- The operands of a line: numbers between commas. -/
def parseOperands (l : List Char) : Option (List Nat) :=
  if l = [] then some [] else (splitCommas l).mapM fun part => parseNumber (trimLine part)

/-- A line read: nothing on it, or a command (30_encoding.md rules R116 to R118). `none` is an assembly error. -/
def parseLine (text : List Char) : Option (Option AsmLine) :=
  let line := trimLine (stripComment text)
  let mnemonic := line.takeWhile fun c => !isBlank c
  match parseOperands (trimLine (line.dropWhile fun c => !isBlank c)) with
  | none => none
  | some ops =>
    if line = [] then some none
    else if mnemonic = ['n', 'o', 'p'] ∧ ops = [] then some (some .nop)
    else if mnemonic = ['c', 'l', 'r', 's', 't'] ∧ ops = [] then some (some .clrst)
    else if mnemonic = ['f', 'r', 'a', 'm', 'e'] then some (some (.frame ops))
    else
      match ops with
      | [v] =>
        if mnemonic = ['w', 'r', 'b'] then some (some (.wrb v))
        else if mnemonic = ['s', 'u', 'b', 'm', 'i', 't'] then some (some (.submit v))
        else if mnemonic = ['s', 'e', 't', 'b'] then some (some (.setb v))
        else if mnemonic = ['.', 'w', 'o', 'r', 'd'] then some (some (.word v))
        else none
      | [v, count] => if mnemonic = ['f', 'i', 'l', 'l'] then some (some (.fill v count)) else none
      | _ => none

/-- The words of a line of text for a frame length n. -/
def assembleLine (n : Nat) (text : List Char) : Option (List Word) :=
  match parseLine text with
  | none => none
  | some none => some []
  | some (some line) => assemble n line

/-- The words of a command stream, line by line. -/
def assembleText (n : Nat) : List (List Char) → Option (List Word)
  | [] => some []
  | text :: rest =>
    match assembleLine n text, assembleText n rest with
    | some words, some more => some (words ++ more)
    | _, _ => none

end Sys2Proof.Machine
end

