-- ==== Sys2Proof/Tests/Slice0.lean ====
section
/-! SUPPORT. Tests/Slice0.lean: the model's own tests. Expected values are those of spec/95_test_vectors.md (cited as V<n>)
or are worked out from the cited rules by hand. A test_witness_<Name> shows that the hypotheses of Obligations.<Name>
can be met. -/

open Sys2Proof Sys2Proof.Machine

namespace Sys2Proof.Tests

set_option Elab.async false

/-! ## Configurations (95_test_vectors.md section 1) -/

def tcfgGamma (ch v : Nat) : GammaValue :=
  match ch with
  | 0 => BitVec.ofNat 11 ((v <<< 3) ||| (v >>> 5))
  | 1 => BitVec.ofNat 11 (v <<< 3)
  | _ => BitVec.ofNat 11 (v <<< 2)

def tcfgDelay (b p : Nat) : Nat := if b = 0 then (if p < 3 then 0 else 2 ^ (p - 3)) else b * 2 ^ p

def params (W H : Nat) (delays : Nat → Nat → Nat) : Params where
  W := W
  H := H
  P := 1
  DELAY_W := 16
  GAMMA_LUT := tabulate 3 fun ch => tabulate 256 fun v => tcfgGamma ch v
  DELAY_LUT := tabulate 8 fun b => tabulate 11 fun p => delays b p
  RESET_BUCKET := 7
  F_R := 1
  F_I := 1
  F_MIN := 1

/-- The gamma tables meet rules R152 and R153 (95_test_vectors.md section 1). -/
theorem test_gamma_wf (W H : Nat) (d : Nat → Nat → Nat) :
    (params W H d).gammaMonotone = true ∧ (params W H d).gammaZero = true := by
  simp only [Params.gammaMonotone, Params.gammaZero, params, tabulate_getElem, decide_eq_true_eq]
  decide +kernel

theorem params_wf {W H : Nat} {d : Nat → Nat → Nat} (hW : 1 ≤ W ∧ W ≤ 4096) (h2 : H % 2 = 0) (hH : 2 ≤ H ∧ H ≤ 64)
    (hd : ∀ b : Fin 8, ∀ p : Fin 11, d b p < 2 ^ 16) (hp : ∀ b : Fin 8, ∀ p : Fin 10, d b p ≤ d b (p + 1))
    (hb : ∀ p : Fin 11, ∀ b : Fin 7, d b p ≤ d (b + 1) p) : (params W H d).wf = true := by
  refine (Params.wf_iff _).2 ⟨hW, h2, hH, le_refl 1, ⟨Nat.le_of_ble_eq_true rfl, Nat.le_of_ble_eq_true rfl⟩, ?_, (test_gamma_wf W H d).1,
    (test_gamma_wf W H d).2, decide_eq_true ?_, decide_eq_true ?_, decide_eq_true ?_⟩
  · exact decide_eq_true (by show (0 : Rat) < 1 ∧ (0 : Rat) < 1 ∧ (0 : Rat) < 1; norm_num)
  all_goals simp only [params, tabulate_getElem]; assumption

/-- Delays of 0 but for planes 9 and 10, so that a pass is short. -/
def shortDelay (b p : Nat) : Nat := if 9 ≤ p then b / 4 + 1 else 0

theorem test_tcfg_wf : (params 2 2 tcfgDelay).wf = true :=
  params_wf (by decide) (by decide) (by decide) (by decide) (by decide) (by decide)
theorem test_tcfg4_wf : (params 1 4 tcfgDelay).wf = true :=
  params_wf (by decide) (by decide) (by decide) (by decide) (by decide) (by decide)
theorem test_short_wf : (params 1 2 shortDelay).wf = true :=
  params_wf (by decide) (by decide) (by decide) (by decide) (by decide) (by decide)

/-- TCFG: W = 2, H = 2, N = 12. -/
def tcfg : Config := ⟨params 2 2 tcfgDelay, test_tcfg_wf⟩
/-- TCFG4: W = 1, H = 4, R = 2, N = 12. -/
def tcfg4 : Config := ⟨params 1 4 tcfgDelay, test_tcfg4_wf⟩
/-- W = 1, H = 2, N = 6, with T_pass(7, false) = 1 + 44 + 4 = 49. -/
def short : Config := ⟨params 1 2 shortDelay, test_short_wf⟩

/-- TCFG right after reset. -/
def s0 : State := State.resetOf tcfg
/-- The short configuration right after reset. -/
def u0 : State := State.resetOf short

/-- The outcome is a next state with the property. -/
def after (x : Result) (p : State → Bool) : Bool :=
  match x with
  | .next t => p t
  | .fault _ => false
  | .refused _ => false

theorem exists_of_after {x : Result} {p : State → Bool} (h : after x p = true) : ∃ t, x = .next t ∧ p t = true := by
  cases x with
  | next t => exact ⟨t, rfl, h⟩
  | fault e => simp [after] at h
  | refused e => simp [after] at h

/-- `State.Inv` of a state with both domains running, but for `init_cleared`. -/
def runningInv (s : State) : Bool :=
  decide (s.cursor.toNat < s.cfg.N) && s.next.wf && s.next.below s.cfg.N && s.current.wf && s.current.below s.cfg.N
    && decide (s.k.toNat < s.cfg.N) && decide (s.st = .idle ∨ s.st = .scan → s.k = 0)
    && decide (s.r.toNat < s.cfg.R) && decide (s.st ≠ .scan → s.p = 0 ∧ s.r = 0 ∧ s.j = 0)
    && decide (s.st = .scan → s.j < slotLength s.cfg s.pass_bucket s.p) && decide (s.addr_reg.toNat < s.cfg.R)
    && decide (s.st = .scan → shiftLength s.cfg ≤ s.j → s.addr_reg = s.r)
    && atMostOneFlip (publishRing s) && atMostOneFlip (bucketRing s)
    && decide (s.bkt_ack = s.bkt_req → s.bucket_r = s.bucket_x)
    && decide (s.bkt_dirty = false → s.bucket_x = s.bucket_i)
    && (s.rst_n && s.rsync_i1 && s.rsync_i2 && s.rsync_r1 && s.rsync_r2)

theorem inv_of_running {s : State} (h : runningInv s = true) (hc : s.st = .init → s.current = [] ∨ s.k = 0) :
    s.Inv := by
  simp only [runningInv, Bool.and_eq_true, decide_eq_true_eq] at h
  obtain ⟨⟨⟨⟨⟨⟨⟨⟨⟨⟨⟨⟨⟨⟨⟨⟨h1, h2⟩, h3⟩, h4⟩, h5⟩, h6⟩, h7⟩, h8⟩, h9⟩, h10⟩, h11⟩, h12⟩, h13⟩, h14⟩, h15⟩, h16⟩, h17⟩ := h
  obtain ⟨⟨⟨⟨e1, e2⟩, e3⟩, e4⟩, e5⟩ := h17
  refine ⟨h1, h2, h3, h4, h5, h6, h7, h8, h9, h10, h11, h12, ?_, h13, h14, h15, h16, ?_, ?_, ?_, ?_, ?_⟩
  · intro hs a ha
    rcases hc hs with hm | hk
    · rw [hm]; rfl
    · rw [hk] at ha; simp at ha
  · simp [e1]
  · simp [e2]
  · simp [e4]
  · simp [runsI, e1, e3]
  · simp [runsR, e1, e5]

theorem test_reset_inv : s0.Inv ∧ u0.Inv :=
  ⟨inv_of_running (by decide +kernel) (fun _ => .inr rfl), inv_of_running (by decide +kernel) (fun _ => .inr rfl)⟩

/-! ## WellFormed smoke: an ill-formed term for each check, which the check refuses (00_scope.md rule R11) -/

theorem test_wf_W : (params 0 2 tcfgDelay).wInRange = false ∧ (params 4097 2 tcfgDelay).wInRange = false := by decide
theorem test_wf_H : (params 2 3 tcfgDelay).hEven = false ∧ (params 2 0 tcfgDelay).hInRange = false ∧
    (params 2 66 tcfgDelay).hInRange = false := by decide
theorem test_wf_P : { params 2 2 tcfgDelay with P := 0 }.pPositive = false := by decide
theorem test_wf_DELAY_W : { params 2 2 tcfgDelay with DELAY_W := 0 }.delayWInRange = false ∧
    { params 2 2 tcfgDelay with DELAY_W := 33 }.delayWInRange = false := by decide
theorem test_wf_rates : { params 2 2 tcfgDelay with F_MIN := 0 }.ratesPositive = false := by decide +kernel
/-- V1's negative instance: GAMMA_LUT[1][10] = 90 and GAMMA_LUT[1][11] = 80. -/
theorem test_wf_gamma_falls (c : Params) (h10 : c.GAMMA_LUT[1][10] = 90) (h11 : c.GAMMA_LUT[1][11] = 80) :
    c.gammaMonotone = false := by
  refine decide_eq_false fun h => ?_
  have := h 1 10
  simp only [show ((1 : Fin 3) : Nat) = 1 from rfl, show ((10 : Fin 255) : Nat) = 10 from rfl, h10, h11] at this
  exact absurd this (by decide)
theorem test_wf_gamma_zero : { params 2 2 tcfgDelay with
    GAMMA_LUT := tabulate 3 fun _ => tabulate 256 fun _ => 1 }.gammaZero = false := by decide +kernel
theorem test_wf_delay_fits : { params 2 2 tcfgDelay with DELAY_W := 12 }.delayFits = false := by decide +kernel
/-- V2's negative instance. -/
theorem test_wf_delay_falls_in_plane :
    (params 2 2 fun b p => if b = 2 ∧ p = 6 then 63 else tcfgDelay b p).delayPlaneMonotone = false := by decide +kernel
theorem test_wf_delay_falls_in_bucket :
    (params 2 2 fun b p => if b = 2 then 0 else tcfgDelay b p).delayBucketMonotone = false := by decide +kernel
theorem test_elaborate_refuses : Config.elaborate (params 2 3 tcfgDelay) = none ∧
    (Config.elaborate (params 2 2 tcfgDelay)).isSome = true := by
  have h : (params 2 3 tcfgDelay).wf = false := by decide
  simp [Config.elaborate, h, test_tcfg_wf]
/-- V13's assembly errors, and each operand and operand count out of its range. -/
theorem test_wf_operands : assemble 12 (.wrb 256) = none ∧ assemble 12 (.setb 8) = none ∧
    assemble 12 (.submit 0x1000000) = none ∧ assemble 12 (.word (2 ^ 32)) = none ∧ assemble 2 (.frame [1]) = none ∧
    assemble 2 (.frame [1, 256]) = none ∧ assemble 12 (.fill 256 1) = none := by decide

/-! ## Decoding: a word of each command, written out from 30_encoding.md rules R101 to R109, and V11 -/

theorem test_decode_nop : decode 0b00000000000000000000000000000000 = .ok .nop := by decide
theorem test_decode_writeByte : decode 0b00010000000000000000000010101011 = .ok (.writeByte 0xAB) := by decide
theorem test_decode_submit : decode 0b00100000000000000011011000000000 = .ok (.submit 13824) := by decide
theorem test_decode_setBucket : decode 0b00110000000000000000000000000110 = .ok (.setBucket 6) := by decide
theorem test_decode_clearStatus : decode 0b01000000000000000000000000000000 = .ok .clearStatus := by decide
theorem test_decode_reserved_low : decode 0x50000000 = .ok (.reserved5 0) ∧ decode 0x60000001 = .ok (.reserved6 1) ∧
    decode 0x78000000 = .ok (.reserved7 0x8000000) ∧ decode 0x8000000C = .ok (.reserved8 0xC) ∧
    decode 0x90000000 = .ok (.reserved9 0) := by decide
theorem test_decode_reserved_high : decode 0xA0000000 = .ok (.reservedA 0) ∧ decode 0xB0000000 = .ok (.reservedB 0) ∧
    decode 0xC0000000 = .ok (.reservedC 0) ∧ decode 0xD0000000 = .ok (.reservedD 0) ∧
    decode 0xE0000000 = .ok (.reservedE 0) ∧ decode 0xFFFFFFFF = .ok (.reservedF 0xFFFFFFF) := by decide
theorem test_decode_badarg : [0x00000001, 0x0F000000, 0x10000100, 0x18000001, 0x21000000, 0x2F00000C, 0x30000008,
    0x40000001].all (fun w => decide (decode w = .error .badArg)) = true := by decide
/-- No two rows of the opcode map overlap: some fixed bit tells them apart. -/
theorem test_rows_disjoint :
    opcodeTable.Pairwise fun a b => (a.pattern ^^^ b.pattern) &&& (a.mask &&& b.mask) ≠ 0 := by decide
/-- V13. -/
theorem test_assemble_frame : assemble 2 (.frame [1, 2]) = some [0x20000002, 0x10000001, 0x10000002] ∧
    assemble 12 (.fill 0x7F 3) = some [0x1000007F, 0x1000007F, 0x1000007F] ∧
    assemble 12 (.word 0x10000100) = some [0x10000100] := by decide
/-- V13's lines as text, with a comment, a hexadecimal number and a blank line. -/
theorem test_assemble_text : assembleText 2 ["frame 1, 0x02 ; a frame".toList, "".toList, "setb 7".toList, "nop".toList] =
      some [0x20000002, 0x10000001, 0x10000002, 0x30000007, 0x00000000] ∧
    assembleLine 2 "wrb 256".toList = none ∧ assembleLine 2 "wrb".toList = none ∧ assembleLine 2 "frame 1".toList = none ∧
    assembleLine 2 ".word 0x10000100".toList = some [0x10000100] ∧
    assembleLine 2 "fill 0x7F, 3".toList = some [0x1000007F, 0x1000007F, 0x1000007F] := by decide +kernel
theorem test_decodeTableWord : decodeTableWord 32 0x100000AB = some (.writeByte 0xAB) ∧
    decodeTableWord 32 0x10000100 = none := by decide

/-! ## The commands (V14 to V35) -/

/-- V14. -/
theorem test_writeByte_stores : after (exec (.writeByte 0xAB) { s0 with cursor := 4 }) (fun t =>
    t.next.read 4 == 0xAB && t.cursor == 5 && !t.pub_dirty) = true := by decide +kernel
/-- V15, and V18: a dropped byte at the same cursor neither stores nor publishes. -/
theorem test_writeByte_wraps : after (exec (.writeByte 0x01) { s0 with cursor := 11 }) (fun t =>
      t.next.read 11 == 0x01 && t.cursor == 0 && t.pub_dirty) = true ∧
    after (exec (.writeByte 0x22) { s0 with cursor := 11, discard := 1 }) (fun t =>
      t.next.read 11 == 0 && t.cursor == 11 && t.discard == 0 && !t.pub_dirty) = true := by decide +kernel
/-- V20 and V23. -/
theorem test_submit_accepts : after (exec (.submit 12) { s0 with cursor := 7, discard := 9 }) (fun t =>
    t.cursor == 0 && t.discard == 0 && !t.err_len) = true := by decide +kernel
/-- V22 and V25. -/
theorem test_submit_rejects : after (exec (.submit 5) { s0 with cursor := 7, discard := 9 }) (fun t =>
      t.cursor == 7 && t.discard == 5 && t.err_len) = true ∧
    after (exec (.submit 0xFFFFFF) s0) (fun t => t.discard == 0xFFFFFF && t.err_len) = true := by decide +kernel
/-- V28. -/
theorem test_setBucket : after (exec (.setBucket 3) s0) (fun t =>
    t.bucket_i == 3 && t.bkt_dirty && status t == 0x30000000) = true := by decide +kernel

/-- The state of V30: all errors, discarding, cursor 3. -/
def s30 : State := { s0 with cursor := 3, discard := 2, err_cmd := true, err_arg := true, err_len := true }

/-- V30 and V36. -/
theorem test_clearStatus : status s30 = 0x7F000003 ∧
    after (exec .clearStatus s30) (fun t => status t == 0x78000003) = true := by decide +kernel
/-- V31: a rejected CLEAR_STATUS clears nothing. V19: a rejected byte does not count down. -/
theorem test_badArg : after (commandWord 0x40000001 s0) (fun t => status t == 0x72000000) = true ∧
    after (commandWord 0x10000122 { s0 with cursor := 3, discard := 2 }) (fun t =>
      t.discard == 2 && t.cursor == 3 && t.err_arg) = true := by decide +kernel
/-- V32 and V33. -/
theorem test_reserved : after (commandWord 0x50000000 s0) (fun t => status t == 0x71000000) = true ∧
    after (commandWord 0xF0000000 { s0 with discard := 3 }) (fun t => t.discard == 3 && t.err_cmd) = true := by
  decide +kernel
/-- V34, and V35: no command and NOP leave the status word. -/
theorem test_no_command : after (event (.clk_i false 0xF0000000) s0) (fun t => status t == 0x70000000) = true ∧
    after (event (.clk_i true 0) s0) (fun t => status t == 0x70000000) = true := by decide +kernel

/-! ## Every row's word runs as the first command after reset -/

theorem test_first_command : [0x00000000, 0x10000000, 0x20000000, 0x30000000, 0x40000000, 0x50000000, 0xF0000000].all
    (fun w => after (step (State.reset.withFetchWord 32 w)) fun t => t.inputs == []) = true := by decide +kernel
theorem test_first_writeByte : after (step (State.reset.withFetchWord 32 0x100000AB)) (fun t =>
    t.next.read 0 == 0xAB && t.cursor == 1) = true := by decide +kernel

/-! ## Handshakes, swap and reset -/

/-- V59, V37: an accepted bucket and a waiting publish are launched at the next clk_i edge. -/
theorem test_launch : after (event (.clk_i false 0) { s0 with pub_dirty := true, bkt_dirty := true, bucket_i := 1 })
    (fun t => t.pub_req && !t.pub_dirty && t.bucket_x == 1 && t.bkt_req && !t.bkt_dirty) = true := by decide +kernel
/-- V60: a bucket captured in the IDLE step is not the one the pass latches. -/
theorem test_capture_in_idle :
    after (event .clk_r { s0 with st := .idle, bkt_req := true, breq_s1 := true, breq_s2 := true, bucket_x := 3 })
      (fun t => t.pass_bucket == 7 && t.bucket_r == 3 && t.bkt_ack) = true := by decide +kernel
/-- V39. -/
theorem test_swap_in_idle :
    after (event .clk_r { s0 with st := .idle, pub_req := true, preq_s1 := true, preq_s2 := true }) (fun t => t.st == .copy && !t.pend_r && t.pub_ack && t.k == 0) = true ∧
    after (event .clk_r { s0 with st := .idle }) (fun t => t.st == .scan && !t.pend_r) = true := by decide +kernel
/-- V51: twelve INIT steps, then IDLE. -/
theorem test_init : after (feed (List.replicate 11 .clk_r) s0) (fun t => t.st == .init && t.k == 11) = true ∧
    after (feed (List.replicate 12 .clk_r) s0) (fun t => t.st == .idle && t.k == 0) = true := by decide +kernel
/-- V57, and R271: a command in reset is lost, and the step comes at the edge after the two flops. -/
theorem test_reset_command : after (feed [.rst_n false, .clk_i true 0x10000055, .rst_n true, .clk_i true 0x10000055,
    .clk_i true 0x10000055] s0) (fun t => t.cursor == 0 && runsI t) = true ∧
    after (feed [.rst_n false, .rst_n true, .clk_i false 0, .clk_i false 0, .clk_i true 0x10000055] s0)
      (fun t => t.cursor == 1) = true := by decide +kernel

/-! ## Tables, pins and timing -/

/-- V61. -/
theorem test_lookups : gamma tcfg .red 128 = 1028 ∧ gamma tcfg .green 255 = 2040 ∧ gamma tcfg .blue 1 = 4 ∧
    delay tcfg 7 10 = 7168 ∧ delay tcfg 0 2 = 0 ∧ delay tcfg 1 3 = 8 := by decide +kernel
/-- V42. -/
theorem test_passLength : passLength tcfg 0 false = 322 ∧ passLength tcfg 7 false = 14396 ∧
    passLength tcfg 7 true = 14408 := by decide +kernel
/-- V41, b = 1 with a swap, and V47's slot (1, 1). -/
theorem test_slotStart : slotStart tcfg 1 true 10 0 = 1096 ∧ slotStart tcfg4 1 false 1 1 = 17 := by decide +kernel
/-- V48. -/
theorem test_litTime : litTime tcfg .red 32 1 = 257 ∧ litTime tcfg .blue 255 7 = 7140 ∧
    litTime tcfg .red 255 0 = 255 := by decide +kernel

/-- The frame of program P1. -/
def p1 : Memory := [255, 0, 0, 0, 255, 0, 0, 0, 255, 128, 128, 128].zipIdx.foldl (fun m b => m.write b.2 b.1) []

/-- A cycle of SCAN over the frame of P1 with bucket 1. -/
def p1Scan (p : Plane) (j : Nat) : State := { s0 with st := .scan, p := p, j := j, pass_bucket := 1, current := p1 }

/-- V43, cycles 17, 18, 21 and 22. -/
theorem test_pins : pins (p1Scan 2 1) = ⟨0b100001, true, 0, false, true⟩ ∧
    pins (p1Scan 2 2) = ⟨0b001000, false, 0, false, true⟩ ∧ pins (p1Scan 2 5) = ⟨0, false, 0, true, true⟩ ∧
    pins (p1Scan 2 6) = ⟨0, false, 0, false, false⟩ := by decide +kernel
/-- V45, planes 9 and 10. -/
theorem test_colourWord : colourWord tcfg p1 9 0 1 = 0b100010 ∧ colourWord tcfg p1 10 0 0 = 0b000001 ∧
    colourWord tcfg p1 10 0 1 = 0b011010 := by decide +kernel
/-- V47: row 1 is on ADDR from the ADDR phase of its slot on. -/
theorem test_addr : after (event .clk_r { State.resetOf tcfg4 with st := .scan, r := 1, j := 1 }) (fun t =>
    (pins t).ADDR == 1 && t.j == 2) = true := by decide +kernel

/-! ## Witnesses: the hypotheses of each obligation can be met, each clause at a boundary of its range -/

/-- The next state of an outcome, or d where it has none. -/
def got (x : Result) (d : State) : State :=
  match x with
  | .next t => t
  | .fault _ => d
  | .refused _ => d

/-- The IDLE cycle of the short configuration. -/
def idle : State := { u0 with st := .idle }
/-- An IDLE cycle with a swap to take. -/
def idleTake : State := { u0 with st := .idle, pend_r := true }
/-- A SCAN cycle in plane 9, whose slot is 4 + 2 cycles long, at its first cycle. -/
def scan9 : State := { u0 with st := .scan, p := 9 }
/-- The first cycle of a COPY. -/
def copy0 : State := { u0 with st := .copy, next := [(0, 5), (3, 7)] }
/-- Both domains running and a publish waiting, two bytes before the end of INIT. -/
def waiting : State := { u0 with st := .init, k := 4, pub_dirty := true }
/-- A state in reset. -/
def held : State := got (event (.rst_n false) s0) s0

theorem idle_inv : idle.Inv := inv_of_running (by decide +kernel) (fun h => by cases h)
theorem idleTake_inv : idleTake.Inv := inv_of_running (by decide +kernel) (fun h => by cases h)
theorem scan9_inv : scan9.Inv := inv_of_running (by decide +kernel) (fun h => by cases h)
theorem copy0_inv : copy0.Inv := inv_of_running (by decide +kernel) (fun h => by cases h)
theorem waiting_inv : waiting.Inv := inv_of_running (by decide +kernel) (fun _ => .inl rfl)

theorem test_witness_EncodeInvertsDecode : decode 0x30000007 = .ok (.setBucket 7) ∧ decode 0xFFFFFFFF =
    .ok (.reservedF 0xFFFFFFF) := by decide
theorem test_witness_DecodingFollowsTheOpcodeMap :
    (0x100000FF : Word) &&& (opcodeTable[(1 : Fin 16)]).mask = (opcodeTable[(1 : Fin 16)]).pattern ∧
    (0x10000100 : Word) &&& (opcodeTable[(1 : Fin 16)]).mask ≠ (opcodeTable[(1 : Fin 16)]).pattern := by decide
theorem test_witness_LinesAssembleToTheirCommands : ([0, 255, 0, 1, 2, 3] : List Nat).length = short.N ∧
    (∀ b ∈ ([0, 255, 0, 1, 2, 3] : List Nat), b ≤ 255) ∧ ([1] : List Nat).length ≠ short.N ∧
    (∃ b ∈ ([0, 256] : List Nat), 255 < b) := by decide
theorem test_witness_TablesRise : (0 : Byte) ≤ 255 ∧ (9 : Plane) ≤ 10 ∧ (6 : Bucket) ≤ 7 := by decide
theorem test_witness_ResetLeavesTheTabledValues : Memory.wf [(0, 1), (11, 2)] = true := by decide
theorem test_witness_DomainInResetTakesNoStep : runsI held = false ∧ runsR held = false := by decide +kernel
theorem test_witness_NopHasNoEffect : runsI s0 = true ∧ (0x8000000 : BitVec 28) ≠ 0 := by decide +kernel
theorem test_witness_WriteByteStoresAtTheCursor : (11 : BitVec 20).toNat < tcfg.N ∧ (11 : BitVec 20).toNat = tcfg.N - 1 ∧
    s0.cursor.toNat < tcfg.N := by decide +kernel
theorem test_witness_WriteByteChangesOneByteOfNext : s0.next.wf = true ∧ s0.discard = 0 ∧
    after (exec (.writeByte 255) s0) (fun _ => true) = true ∧
    after (exec (.writeByte 255) { s0 with discard := 1 }) (fun _ => true) = true := by decide +kernel
theorem test_witness_RejectedFrameBytesAreDropped : { s0 with discard := 2 }.discard ≠ 0 ∧
    after (exec .nop { s0 with discard := 2 }) (fun _ => true) = true ∧ runsI { s0 with discard := 2 } = true ∧
    ([1, 2] : List Byte).length = { s0 with discard := 2 }.discard.toNat := by decide +kernel
theorem test_witness_OnlyTheWrappingStorePublishes :
    after (exec (.writeByte 1) { s0 with cursor := 11 }) (fun t => t.pub_dirty) = true ∧
    after (exec (.writeByte 1) { s0 with cursor := 10 }) (fun t => !t.pub_dirty) = true := by decide +kernel
theorem test_witness_ReservedOpcodesRaiseErrCmd : 5 ≤ (fieldOP 0x50000000).toNat ∧ 5 ≤ (fieldOP 0xFFFFFFFF).toNat := by
  decide
theorem test_witness_OverwideWordsRaiseErrArg :
    let overwide := fun (n : Fin 5) (w : Word) =>
      fieldOP w = BitVec.ofNat 4 n.val ∧ w &&& (opcodeTable[n.val]).mask &&& 0x0FFFFFFF ≠ 0
    overwide 0 0x08000000 ∧ overwide 1 0x10000100 ∧ overwide 2 0x21000000 ∧ overwide 3 0x30000008 ∧
      overwide 4 0x40000001 := by decide
theorem test_witness_PartThreeWritesItsColumns : runsI s0 = true ∧
    [0x00000000, 0x100000FF, 0x2000000C, 0x20000000, 0x30000007, 0x40000000, 0xFFFFFFFF, 0x00000001].all
      (fun w => after (event (.clk_i true w) s0) fun _ => true) = true ∧
    after (event (.clk_i false 1) s0) (fun _ => true) = true := by decide +kernel
theorem test_witness_EachWordRaisesItsOwnError : s0.err_cmd = false ∧ s0.err_arg = false ∧ s0.err_len = false ∧
    after (commandWord 0x50000000 s0) (fun t => t.err_cmd && !t.err_arg && !t.err_len) = true ∧
    after (commandWord 0x2F000005 s0) (fun t => !t.err_cmd && t.err_arg && !t.err_len) = true ∧
    after (commandWord 0x20000000 s0) (fun t => !t.err_cmd && !t.err_arg && t.err_len) = true := by decide +kernel
theorem test_witness_ErrorFlagsAreSticky :
    after (step { s30 with inputs := [.clk_i true 0x10000001] }) (fun t => t.err_cmd && t.err_arg && t.err_len) = true ∧
    nextInput { s30 with inputs := [.clk_i true 0x10000001] } ≠ .rst_n false ∧
    presented (nextInput { s30 with inputs := [.clk_i true 0x10000001] }) ≠ some .clearStatus := by decide +kernel
theorem test_witness_WritesWrapModuloTheFrame : s0.Inv ∧ runsI s0 = true ∧ s0.cursor = 0 ∧ s0.discard = 0 ∧
    11 < s0.cfg.N ∧ (List.replicate 23 (0xFF : Byte)).length = s0.cfg.N + 11 ∧
    (List.replicate 12 (0xFF : Byte)).length = s0.cfg.N + 0 := ⟨test_reset_inv.1, by decide +kernel⟩
theorem test_witness_StepRunsTheDecodedCommand : { s0 with inputs := [.clk_i true 0x100000AB] }.inputs =
    .clk_i true 0x100000AB :: [] ∧ runsI s0 = true ∧ decode 0x100000AB = .ok (.writeByte 0xAB) := by decide +kernel
theorem test_witness_LaunchesAndAcknowledges : runsI s0 = true := by decide +kernel
theorem test_witness_CommandWriteWinsOverLaunch :
    let s := { s0 with pub_dirty := true, bkt_dirty := true, cursor := 11 }
    runsI s = true ∧ s.pub_dirty = true ∧ s.pack_s2 = s.pub_req ∧ s.discard = 0 ∧ s.cursor.toNat = s.cfg.N - 1 ∧
      s.bkt_dirty = true ∧ s.back_s2 = s.bkt_req := by decide +kernel
theorem test_witness_RenderStepTakesInRequests :
    runsR { s0 with preq_s2 := true } = true ∧ { s0 with preq_s2 := true }.st ≠ .idle ∧
    after (event .clk_r { s0 with preq_s2 := true }) (fun t => t.pend_r && t.pub_ack) = true := by decide +kernel
theorem test_witness_IdleStepDecidesTheSwap : runsR idle = true ∧ idle.st = .idle ∧ runsR idleTake = true ∧
    idleTake.st = .idle ∧ runsR scan9 = true ∧ scan9.st ≠ .idle ∧
    after (event .clk_r scan9) (fun _ => true) = true := by decide +kernel
theorem test_witness_CopyAndInitWriteOneByte :
    copy0.current.wf = true ∧ runsR copy0 = true ∧ copy0.k.toNat < copy0.cfg.N ∧ copy0.st = .copy ∧
    { waiting with k := 5 }.k.toNat < short.N ∧ { waiting with k := 5 }.k.toNat = short.N - 1 ∧
    runsR waiting = true ∧ waiting.st = .init := by decide +kernel
/-- The four ends of a SCAN step: within the slot, and at its last cycle within the rows, the planes and the pass. -/
theorem test_witness_ScanStepCountsSlotsRowsPlanes :
    after (event .clk_r scan9) (fun t => t.j == 1) = true ∧
    after (event .clk_r { State.resetOf tcfg4 with st := .scan, j := 10 }) (fun t => t.r == 1 && t.j == 0) = true ∧
    after (event .clk_r { scan9 with j := 5 }) (fun t => t.p == 10 && t.j == 0) = true ∧
    after (event .clk_r { scan9 with p := 10, j := 5 }) (fun t => t.st == .idle && t.p == 0) = true := by decide +kernel
theorem test_witness_RenderStepFrame : runsR idle = true ∧ after (event .clk_r idle) (fun _ => true) = true ∧
    runsR scan9 = true ∧ after (event .clk_r scan9) (fun _ => true) = true := by decide +kernel

/-- A publish has just been launched. -/
def launched : State := { scan9 with pub_req := true }
/-- A publish has just been acknowledged. -/
def acknowledged : State := { scan9 with pub_req := true, preq_s1 := true, preq_s2 := true, pub_ack := true }

theorem test_witness_PublishCrossesInThreeAndThreeSteps :
    launched.Inv ∧ acknowledged.Inv ∧ runsI launched = true ∧ runsR launched = true ∧ runsI acknowledged = true ∧
    runsR acknowledged = true ∧ launched.pub_req ≠ launched.preq_s1 ∧ acknowledged.pub_ack = acknowledged.pub_req ∧
    acknowledged.pack_s1 ≠ acknowledged.pub_req ∧
    noReset [.clk_r, .clk_i true 0x10000001, .clk_r] = true ∧
    renderEdges [.clk_r, .clk_i true 0x10000001, .clk_r] < 3 ∧ renderEdges [.clk_r, .clk_r, .clk_r] = 3 ∧
    ingestEdges [.clk_i false 0, .clk_r, .clk_i false 0] = 2 :=
  ⟨inv_of_running (by decide +kernel) (fun h => by cases h), inv_of_running (by decide +kernel) (fun h => by cases h),
    by decide +kernel⟩
theorem test_witness_LastBucketArrives :
    let s := { scan9 with bkt_dirty := true, bucket_i := 3 }
    s.Inv ∧ runsI s = true ∧ runsR s = true ∧
    noReset (List.replicate 3 .clk_r ++ List.replicate 3 (.clk_i true 0x10000001) ++ List.replicate 3 .clk_r) = true ∧
    (∀ e ∈ List.replicate 3 Input.clk_r ++ List.replicate 3 (.clk_i true 0x10000001) ++ List.replicate 3 .clk_r,
      ∀ b, presented e ≠ some (.setBucket b)) ∧
    3 ≤ renderEdges (List.replicate 3 .clk_r) ∧ 3 ≤ ingestEdges (List.replicate 3 (.clk_i true 0x10000001)) :=
  ⟨inv_of_running (by decide +kernel) (fun h => by cases h), by decide +kernel⟩
theorem test_witness_NeitherDomainWaitsForTheOther :
    let s' := { idle with cursor := 3, err_len := true }
    idle.Inv ∧ runsR idle = true ∧ runsR s' = true ∧
    (idle.cfg, idle.st, idle.k, idle.p, idle.r, idle.j, idle.addr_reg, idle.pass_bucket, idle.bucket_r, idle.pend_r,
        idle.preq_s2, idle.pub_ack) =
      (s'.cfg, s'.st, s'.k, s'.p, s'.r, s'.j, s'.addr_reg, s'.pass_bucket, s'.bucket_r, s'.pend_r, s'.preq_s2,
        s'.pub_ack) ∧
    after (event .clk_r idle) (fun _ => true) = true ∧ after (event .clk_r s') (fun _ => true) = true :=
  ⟨idle_inv, by decide +kernel, by decide +kernel, rfl, by decide +kernel, by decide +kernel⟩
/-- The phases of a slot of the short configuration meet at j = 2, 3 and 4. -/
theorem test_witness_PinsFollowThePhases :
    pins { scan9 with j := 1 } = ⟨colourWord short [] 9 0 0, true, 0, false, true⟩ ∧
    pins { scan9 with j := 2 } = ⟨0, false, 0, false, true⟩ ∧ pins { scan9 with j := 3 } = ⟨0, false, 0, true, true⟩ ∧
    pins { scan9 with j := 4 } = ⟨0, false, 0, false, false⟩ ∧ idle.st ≠ .scan := by decide +kernel
theorem test_held_inv : held.Inv ∧ runsR held = false where
  left :=
    { cursor_in_frame := by decide +kernel
      next_canonical := rfl
      next_in_frame := rfl
      current_canonical := rfl
      current_in_frame := rfl
      k_in_frame := by decide +kernel
      k_zero := fun _ => rfl
      row_in_range := by decide +kernel
      position_zero := fun _ => ⟨rfl, rfl, rfl⟩
      j_in_slot := fun h => absurd h (by decide +kernel)
      addr_in_range := by decide +kernel
      addr_holds_row := fun _ _ => rfl
      init_cleared := fun _ _ _ => rfl
      one_publish_in_flight := rfl
      one_bucket_in_flight := rfl
      bucket_captured := fun _ => rfl
      bucket_launched := fun _ => rfl
      synchronisers_cleared := fun _ => ⟨rfl, rfl, rfl, rfl⟩
      synchroniser_order_i := fun h => absurd h (by decide +kernel)
      synchroniser_order_r := fun h => absurd h (by decide +kernel)
      ingest_in_reset := fun _ => ⟨rfl, rfl, rfl, rfl, rfl, rfl, rfl, rfl, rfl, rfl, rfl, rfl, rfl, rfl, rfl⟩
      render_in_reset := fun _ => ⟨rfl, rfl, rfl, rfl, rfl, rfl, rfl, rfl, rfl, rfl, rfl, rfl, rfl, rfl, rfl⟩ }
  right := rfl
theorem test_witness_HoldLightsForItsDelay : scan9.st = .scan ∧ delay short 7 9 = 2 ∧ { scan9 with p := 0 }.st = .scan ∧
    delay short 7 0 = 0 ∧ 5 < slotLength short 7 9 ∧ idle.st ≠ .scan := by decide +kernel
theorem test_witness_OneLatchPulseAndWClockPulses : scan9.st = .scan ∧ 0 < short.W ∧ 1 < 2 * short.P ∧
    (pins { scan9 with j := 3 }).LAT = true ∧ idle.st ≠ .scan := by decide +kernel
theorem test_witness_AddressChangesInTheDark :
    let s := { State.resetOf tcfg4 with st := .scan, r := 1, j := 1 }
    s.Inv ∧ runsR s = true ∧ s.st = .scan ∧ s.j + 1 = 2 * s.cfg.W * s.cfg.P ∧
    after (event .clk_r s) (fun t => t.st == .scan && decide (2 * t.cfg.W * t.cfg.P ≤ t.j) &&
      decide ((pins t).ADDR ≠ (pins s).ADDR)) = true :=
  ⟨inv_of_running (by decide +kernel) (fun h => by cases h), by decide +kernel⟩
theorem test_witness_ZeroAndUniformFrames : s0.Inv ∧ (∀ a, a < s0.cfg.N → s0.current.read a = 0) ∧
    (∀ y x, y < short.H → x < short.W →
      let m : Memory := [(0, 1), (1, 2), (2, 3), (3, 1), (4, 2), (5, 3)]
      m.read (frameOffset short y x .red) = 1 ∧ m.read (frameOffset short y x .green) = 2 ∧
        m.read (frameOffset short y x .blue) = 3) ∧ 0 < short.R := by
  refine ⟨test_reset_inv.1, fun _ _ => rfl, fun y x hy hx => ?_, by decide⟩
  have hx : x = 0 := Nat.lt_one_iff.1 hx
  have hy : y = 0 ∨ y = 1 := by have : y < 2 := hy; omega
  subst hx; rcases hy with rfl | rfl <;> decide +kernel
theorem test_witness_PassLastsItsLength : idle.Inv ∧ runsR idle = true ∧ idle.st = .idle ∧
    noReset (List.replicate 49 .clk_r) = true ∧ renderEdges (List.replicate 49 .clk_r) = passLength short 7 false ∧
    0 < renderEdges [.clk_r] ∧ renderEdges [.clk_r] < passLength short 7 false :=
  ⟨idle_inv, by decide +kernel⟩
theorem test_witness_SlotsStartOnTime : idleTake.Inv ∧ runsR idleTake = true ∧ idleTake.st = .idle ∧
    noReset (List.replicate 54 .clk_r) = true ∧ 0 < short.R ∧ 5 < slotLength short 7 10 ∧
    renderEdges (List.replicate 54 .clk_r) = slotStart short idleTake.bucket_r (swapTaken idleTake) 10 0 + 5 :=
  ⟨idleTake_inv, by decide +kernel⟩
theorem test_witness_PassIsDeterministic :
    let s' := { idle with cursor := 3, bucket_i := 1, bkt_dirty := true }
    let l' := [Input.clk_i true 0x10000001, .clk_r]
    idle.Inv ∧ s'.Inv ∧ runsR idle = true ∧ runsR s' = true ∧ s'.st = .idle ∧ idle.bucket_r = s'.bucket_r ∧
      swapTaken idle = swapTaken s' ∧ idle.addr_reg = s'.addr_reg ∧ renderEdges [] < scanStart short (swapTaken idle) ∧
      noReset ([.clk_r] ++ [.clk_r]) = true ∧ noReset (l' ++ l') = true ∧
      renderEdges [.clk_r] = scanStart short (swapTaken idle) ∧ renderEdges l' = scanStart short (swapTaken idle) ∧
      renderEdges [.clk_r] = renderEdges l' ∧
      scanStart short (swapTaken idle) + renderEdges [.clk_r] ≤ passLength short idle.bucket_r (swapTaken idle) ∧
      after (feed [.clk_r] idle) (fun u => after (feed l' s') (fun u' => u.current == u'.current &&
        after (feed [.clk_r] u) (fun _ => true) && after (feed l' u') (fun _ => true))) = true :=
  ⟨idle_inv, inv_of_running (by decide +kernel) (fun h => by cases h), by decide +kernel⟩
theorem test_witness_HoldShowsTheSlotsWords : scan9.Inv ∧ runsR scan9 = true ∧ scan9.st = .scan ∧ scan9.j = 0 ∧
    noReset (List.replicate 5 .clk_r) = true ∧ 2 * short.P * (short.W + 1) ≤ renderEdges (List.replicate 4 .clk_r) ∧
    renderEdges (List.replicate 5 .clk_r) < slotLength short scan9.pass_bucket scan9.p :=
  ⟨scan9_inv, by decide +kernel⟩
theorem test_witness_LitTimePerPass : idleTake.Inv ∧ runsR idleTake = true ∧ idleTake.st = .idle ∧
    noReset (List.replicate 55 .clk_r) = true ∧ 1 < short.H ∧ 0 < short.W ∧
    renderEdges (List.replicate 55 .clk_r) = passLength short idleTake.bucket_r (swapTaken idleTake) :=
  ⟨idleTake_inv, by decide +kernel⟩
theorem test_witness_BrighterNeverLightsLess : (3 : Bucket) ≤ 7 ∧ (0 : Byte) ≤ 255 ∧
    (∀ (b : Bucket) (p : Plane), (((List.finRange 11).filter fun q => decide (q < p)).map fun q => delay tcfg b q).sum
      ≤ delay tcfg b p) := by
  refine ⟨by decide, by decide, fun b p => ?_⟩
  have h : ∀ b : Fin 8, ∀ p : Plane, (((List.finRange 11).filter fun q => decide (q < p)).map fun q =>
    delay tcfg (BitVec.ofFin b) q).sum ≤ delay tcfg (BitVec.ofFin b) p := by decide +kernel
  exact h b.toFin p
theorem test_witness_StepKeepsTheInvariant : { s0 with inputs := [.clk_r] }.Inv ∧
    after (step { s0 with inputs := [.clk_r] }) (fun _ => true) = true :=
  ⟨inv_of_running (by decide +kernel) (fun _ => .inr rfl), by decide +kernel⟩
theorem test_witness_BlockNeverStops : s0.Inv := test_reset_inv.1
theorem test_witness_CurrentChangesOnlyInInitAndCopy :
    after (step { copy0 with inputs := [.clk_r] }) (fun t => decide (t.current ≠ copy0.current)) = true ∧
    after (step { idleTake with inputs := [.clk_r] }) (fun t => t.st == .copy) = true ∧ idleTake.st ≠ .copy := by
  decide +kernel
theorem test_witness_FrameFillsNextAndPublishes :
    let bytes : List Byte := [1, 2, 3, 4, 5]
    let l := .clk_i true (encode (.submit 6)) :: .clk_r :: .clk_i true 0x50000000 ::
      bytes.map fun v => .clk_i true (encode (.writeByte v))
    u0.Inv ∧ runsI u0 = true ∧ noReset l = true ∧ bytes.length + 1 = u0.cfg.N ∧
      frameCommands l = .submit (BitVec.ofNat 24 u0.cfg.N) :: bytes.map .writeByte :=
  ⟨test_reset_inv.2, by decide +kernel⟩
theorem test_witness_CopyReadsEachByteAtItsStep : copy0.Inv ∧ runsR copy0 = true ∧ copy0.st = .copy ∧ copy0.k = 0 ∧
    noReset (List.replicate 6 .clk_r) = true ∧ renderEdges (List.replicate 6 .clk_r) = copy0.cfg.N ∧
    List.replicate 6 Input.clk_r = List.replicate 5 .clk_r ++ .clk_r :: [] :=
  ⟨copy0_inv, by decide +kernel⟩
theorem test_witness_PublishedFrameIsShown :
    let s := { waiting with next := [(5, 9)] }
    let l := .clk_i false 0 :: List.replicate 10 .clk_r
    s.Inv ∧ s.pub_dirty = true ∧ noReset l = true ∧ noStore l s = true ∧
      ∃ t, feed l s = .next t ∧ nothingPending t := by
  refine ⟨inv_of_running (by decide +kernel) (fun _ => .inl rfl), by decide +kernel, by decide +kernel,
    by decide +kernel, ?_⟩
  obtain ⟨t, ht, h⟩ := exists_of_after (x := feed (.clk_i false 0 :: List.replicate 10 .clk_r) { waiting with next := [(5, 9)] })
    (p := fun t => decide (t.pub_dirty = false ∧ t.pub_ack = t.pub_req ∧ t.pend_r = false ∧ t.st ≠ .copy))
    (by decide +kernel)
  have h := of_decide_eq_true h
  exact ⟨t, ht, h⟩
theorem test_witness_PublishIsCopiedInTime : waiting.Inv ∧ runsI waiting = true ∧ runsR waiting = true ∧
    waiting.pub_dirty = true ∧ waiting.pack_s2 = waiting.pub_req ∧ noReset (List.replicate 63 .clk_r) = true ∧
    3 + (passLength waiting.cfg 7 true - 1) + waiting.cfg.N ≤ renderEdges (List.replicate 63 .clk_r) :=
  ⟨waiting_inv, by decide +kernel⟩
theorem test_witness_NextResetContentsUnobservable :
    let m : Memory := [(0, 1), (11, 2)]
    m.wf = true ∧ m.below tcfg.N = true ∧ s0.Inv ∧ { s0 with next := m }.Inv ∧
      differOnlyInUnwritten s0 { s0 with next := m } ∧ after (feed [.clk_i true 0x10000001] s0) (fun _ => true) = true ∧
      after (feed [.clk_i true 0x10000001] { s0 with next := m }) (fun _ => true) = true :=
  ⟨rfl, rfl, test_reset_inv.1, inv_of_running (by decide +kernel) (fun _ => .inr rfl),
    ⟨rfl, .inr ⟨⟨rfl, rfl, rfl, by decide⟩, fun a ha => absurd ha (Nat.not_lt_zero a)⟩⟩,
    by decide +kernel, by decide +kernel⟩
/-- Memories that hold something at reset, at their first and last byte. INIT clears `current`. -/
theorem test_witness_DarkUntilAFrameIsWritten :
    let m : Memory := [(0, 1), (11, 255)]
    m.wf = true ∧ m.below tcfg.N = true ∧
    after (feed (List.replicate 12 .clk_r) { s0 with next := m, current := m }) (fun t =>
      t.st == .idle && t.current == [] && t.next == m) = true ∧
    ∀ e ∈ ([.clk_r, .clk_i true 0x20000005, .clk_i false 0x10000001, .rst_n false] : List Input),
      ∀ val, presented e ≠ some (.writeByte val) := by
  refine ⟨by decide, by decide, by decide +kernel, fun e he val => ?_⟩
  have h : decode 0x20000005 = .ok (.submit 5) := by decide
  simp only [List.mem_cons, List.not_mem_nil, or_false] at he
  rcases he with rfl | rfl | rfl | rfl
  · exact fun h => by cases h
  · simp only [presented, h]; exact fun h => by cases h
  · exact fun h => by cases h
  · exact fun h => by cases h

/-- A publish waits while a launch is outstanding, as in program P6. -/
def outstanding : State := { waiting with pub_req := true }

theorem test_witness_EveryPublishIsLaunchedAndCopiedInTime :
    outstanding.Inv ∧ runsI outstanding = true ∧ runsR outstanding = true ∧ outstanding.pub_dirty = true ∧
    outstanding.pack_s2 ≠ outstanding.pub_req ∧
    noReset (List.replicate 3 .clk_r ++ List.replicate 3 (.clk_i false 0) ++ List.replicate 63 .clk_r) = true ∧
    3 ≤ renderEdges (List.replicate 3 .clk_r) ∧ 3 ≤ ingestEdges (List.replicate 3 (.clk_i false 0)) ∧
    3 + (passLength outstanding.cfg 7 true - 1) + outstanding.cfg.N ≤ renderEdges (List.replicate 63 .clk_r) :=
  ⟨inv_of_running (by decide +kernel) (fun _ => .inl rfl), by decide +kernel⟩

end Sys2Proof.Tests
end

section
/-! SUPPORT. The obligations of 00_scope.md: which parameters elaborate (rule R11), and how a run of the machine takes
its listed inputs (rule R14, notes/assumptions/2.md). -/

namespace Sys2Proof

/-! ## Elaboration (00_scope.md rule R11) -/

theorem Config.elaborate_isSome_iff (c : Params) : (Config.elaborate c).isSome = true ↔ c.wf = true := by
  unfold Config.elaborate
  split <;> simp [*]

/-- Settles O6: elaboration is the conjunction of the checks, and each check decides its own range or constraint. -/
theorem onlyLegalConfigurationsElaborate : Obligations.OnlyLegalConfigurationsElaborate := by
  intro c
  rw [Config.elaborate_isSome_iff, Params.wf_iff]
  simp only [Params.ratesPositive, Params.gammaMonotone, Params.gammaZero, Params.delayFits,
    Params.delayPlaneMonotone, Params.delayBucketMonotone, decide_eq_true_eq, and_assoc]

end Sys2Proof

namespace Sys2Proof.Machine

/-! ## No event reads or writes the list of inputs
The list is the environment's (notes/assumptions/2.md): only `nextInput` and `takeInput` look at it. -/

/-- The state with `m` as its inputs to come. -/
def State.setInputs (m : List Input) (s : State) : State := { s with inputs := m }

/-- The outcome with `m` as the inputs to come of its next state, if it has one. -/
def Result.setInputs (m : List Input) (x : Result) : Result := andThen x fun t => .next (t.setInputs m)

/-- Giving the state other inputs to come before `f` is giving them to its outcome. -/
def IgnoresInputs (f : State → Result) : Prop :=
  ∀ (m : List Input) (s : State), f (s.setInputs m) = Result.setInputs m (f s)

namespace IgnoresInputs

theorem next {f : State → State} (hf : ∀ m s, f (s.setInputs m) = (f s).setInputs m) :
    IgnoresInputs fun s => .next (f s) :=
  fun m s => congrArg Host.Outcome.next (hf m s)

theorem ite {c : State → Prop} [DecidablePred c] {f g : State → Result} (hc : ∀ m s, c (s.setInputs m) ↔ c s)
    (hf : IgnoresInputs f) (hg : IgnoresInputs g) : IgnoresInputs fun s => if c s then f s else g s := by
  intro m s
  by_cases h : c s
  · simpa only [if_pos h, if_pos ((hc m s).2 h)] using hf m s
  · simpa only [if_neg h, if_neg (mt (hc m s).1 h)] using hg m s

/-- The second computation may read the state `s` from before the first, but not its inputs to come. -/
theorem andThen {f : State → Result} {g : State → State → Result} (hf : IgnoresInputs f)
    (hread : ∀ m s, g (s.setInputs m) = g s) (hg : ∀ s, IgnoresInputs (g s)) :
    IgnoresInputs fun s => andThen (f s) (g s) := by
  intro m s
  simp only [hf m s, hread m s]
  cases f s with
  | next t => exact hg s m t
  | fault e => rfl
  | refused e => rfl

end IgnoresInputs

theorem storeByte_ignoresInputs (val : Byte) : IgnoresInputs (storeByte val) :=
  .andThen (f := fun s => writeNext (storeOffset s) val s)
    (.ite (fun _ _ => .rfl) (.next fun _ _ => rfl) fun _ _ => rfl)
    (fun _ _ => rfl) fun _ => .next fun _ _ => rfl

theorem exec_ignoresInputs (i : Instr) : IgnoresInputs (exec i) := by
  cases i with
  | writeByte val => exact .ite (fun _ _ => .rfl) (.next fun _ _ => rfl) (storeByte_ignoresInputs val)
  | submit len => exact .ite (fun _ _ => .rfl) (.next fun _ _ => rfl) (.next fun _ _ => rfl)
  | _ => exact .next fun _ _ => rfl

theorem commandWord_ignoresInputs (w : Word) : IgnoresInputs (commandWord w) := by
  unfold commandWord
  cases decode w with
  | ok i => exact exec_ignoresInputs i
  | error e => exact fun _ _ => rfl

theorem edgeI_ignoresInputs (v : Bool) (w : Word) : IgnoresInputs (edgeI v w) := by
  refine .ite (fun _ _ => .rfl) ?_ (.next fun _ _ => rfl)
  cases v with
  | false => exact .next fun _ _ => rfl
  | true => exact fun m s => commandWord_ignoresInputs w m (ingestParts s)

theorem swapDecision_setInputs (m : List Input) (pre s : State) :
    swapDecision (pre.setInputs m) (s.setInputs m) = (swapDecision pre s).setInputs m := by
  unfold swapDecision
  simp only [apply_ite (State.setInputs m)]
  rfl

theorem scanStep_setInputs (m : List Input) (pre s : State) :
    scanStep (pre.setInputs m) (s.setInputs m) = (scanStep pre s).setInputs m := by
  unfold scanStep
  simp only [apply_ite (State.setInputs m)]
  rfl

theorem initStep_ignoresInputs : IgnoresInputs fun s => initStep s (pendCapture s (renderParts s)) :=
  .andThen (f := fun s => writeCurrent s.k.toNat 0x00 (pendCapture s (renderParts s)))
    (.ite (fun _ _ => .rfl) (.next fun _ _ => rfl) fun _ _ => rfl)
    (fun _ _ => rfl) fun _ => .ite (fun _ _ => .rfl) (.next fun _ _ => rfl) (.next fun _ _ => rfl)

theorem copyStep_ignoresInputs : IgnoresInputs fun s => copyStep s (pendCapture s (renderParts s)) :=
  .andThen (f := fun s => writeCurrent s.k.toNat (s.next.read s.k.toNat) (pendCapture s (renderParts s)))
    (.ite (fun _ _ => .rfl) (.next fun _ _ => rfl) fun _ _ => rfl)
    (fun _ _ => rfl) fun _ => .ite (fun _ _ => .rfl) (.next fun _ _ => rfl) (.next fun _ _ => rfl)

theorem renderStep_ignoresInputs : IgnoresInputs renderStep := by
  intro m s
  unfold renderStep
  rw [show (s.setInputs m).st = s.st from rfl]
  cases s.st with
  | init => exact initStep_ignoresInputs m s
  | idle =>
    exact congrArg (fun t => Host.Outcome.next (bucketLatch s t)) (swapDecision_setInputs m s (renderParts s))
  | copy => exact copyStep_ignoresInputs m s
  | scan => exact congrArg Host.Outcome.next (scanStep_setInputs m s (pendCapture s (renderParts s)))

theorem edgeR_ignoresInputs : IgnoresInputs edgeR :=
  .ite (fun _ _ => .rfl) renderStep_ignoresInputs (.next fun _ _ => rfl)

theorem event_ignoresInputs (e : Input) : IgnoresInputs (event e) := by
  cases e with
  | clk_i v w => exact edgeI_ignoresInputs v w
  | clk_r => exact edgeR_ignoresInputs
  | rst_n level => cases level <;> exact .next fun _ _ => rfl

/-! ## The listed inputs are taken in order -/

theorem step_listed (e : Input) (m : List Input) (s : State) :
    step (s.setInputs (e :: m)) = Result.setInputs m (event e s) :=
  event_ignoresInputs e m s

theorem run_succ (k : Nat) (s : State) :
    Host.Core.run core (k + 1) s = andThen (step s) (Host.Core.run core k) := by
  refine (Host.Core.run.eq_2 core s k).trans ?_
  rw [show core.step s = step s from rfl]
  cases step s <;> rfl

/-- By induction on the listed inputs: a step takes the first of them and leaves the others as they are. -/
theorem run_listed (l rest : List Input) (s : State) :
    Host.Core.run core l.length (s.setInputs (l ++ rest)) = feed l (s.setInputs rest) := by
  induction l generalizing s with
  | nil => rfl
  | cons e l ih =>
    rw [List.length_cons, List.cons_append, run_succ, step_listed, feed_cons, event_ignoresInputs e rest s]
    cases event e s with
    | next t => exact ih t
    | fault r => rfl
    | refused r => rfl

/-- Settles O27: the run of the listed inputs, the state's own inputs replaced by them. -/
theorem runsFollowTheListedInputs : Obligations.RunsFollowTheListedInputs :=
  fun s l rest => run_listed l rest s

end Sys2Proof.Machine
end

section
/-! SUPPORT. The obligations of 10_state.md: the status word (rule R44), the state after reset and what INIT leaves
(rule R56), and the invariant of the block (`State.Inv` in Safety.lean), which reset establishes and every step keeps. -/

namespace Sys2Proof

theorem Config.N_pos (c : Config) : 0 < c.N := by have := c.N_ge; omega

end Sys2Proof

namespace Sys2Proof.Machine

/-! ## The status word (rule R44) -/

/-- Each bit of the status word is a bit of the field it lies in. -/
theorem status_getLsbD (s : State) (i : Nat) : (status s).getLsbD i =
    if i < 20 then s.cursor.getLsbD i else if i < 24 then false else if i < 25 then s.err_cmd
    else if i < 26 then s.err_arg else if i < 27 then s.err_len else if i < 28 then discarding s
    else if i < 31 then s.bucket_i.getLsbD (i - 28) else false := by
  change (0#1 ++ s.bucket_i ++ BitVec.ofBool (discarding s) ++ BitVec.ofBool s.err_len ++ BitVec.ofBool s.err_arg
    ++ BitVec.ofBool s.err_cmd ++ 0#4 ++ s.cursor).getLsbD i = _
  simp only [BitVec.getLsbD_append, Nat.sub_sub, BitVec.getLsbD_zero, BitVec.getLsbD_ofBool]
  rcases Nat.lt_or_ge i 20 with h | h
  · simp only [if_pos h]
  rcases Nat.lt_or_ge i 28 with h' | h'
  · interval_cases i <;> rfl
  · have hiff : i - (20 + 4 + 1 + 1 + 1 + 1) < 3 ↔ i < 31 := by omega
    simp (disch := omega) only [if_neg, hiff]

/-- Settles O24, bit by bit. -/
theorem statusWordLayout : Obligations.StatusWordLayout := by
  intro s
  simp only [status_getLsbD, BitVec.eq_of_getLsbD_eq_iff, BitVec.getLsbD_extractLsb']
  refine ⟨fun i hi => ?_, fun i hi => ?_, rfl, rfl, rfl, rfl, fun i hi => ?_, rfl⟩
  · simp [hi]
  · simp (disch := omega) [if_neg]
  · simp (disch := omega) [hi, if_neg, if_pos]

/-! ## Bytes that INIT has cleared (40_frame_store.md rule R135) -/

/-- Clearing byte k extends the cleared bytes by one. -/
theorem Memory.read_write_zero_below_succ {m : Memory} {k : Nat} (hm : m.wf = true) (h : ∀ a, a < k → m.read a = 0) :
    ∀ a, a < k + 1 → (m.write k 0).read a = 0 := by
  intro a ha
  by_cases hk : a = k
  · rw [hk, Memory.read_write_same hm]
  · rw [Memory.read_write_other hk, h a (by omega)]

/-- The byte index never wraps inside the frame (10_state.md rule R41). -/
theorem k_succ_toNat {s : State} (hk : s.k.toNat < s.cfg.N) : (s.k + 1).toNat = s.k.toNat + 1 := by
  have := s.cfg.N_lt
  rw [BitVec.toNat_add, show (1 : BitVec 20).toNat = 1 from rfl]
  omega

/-! ## The state after reset (rule R56) -/

/-- Settles O51: every register holds its value of rule R56, and N and R are positive. -/
theorem resetMeetsTheInvariant : Obligations.ResetMeetsTheInvariant := by
  intro c
  exact {
    cursor_in_frame := c.N_pos
    next_canonical := rfl
    next_in_frame := rfl
    current_canonical := rfl
    current_in_frame := rfl
    k_in_frame := c.N_pos
    k_zero := fun _ => rfl
    row_in_range := c.R_pos
    position_zero := fun _ => ⟨rfl, rfl, rfl⟩
    j_in_slot := nofun
    addr_in_range := c.R_pos
    addr_holds_row := nofun
    init_cleared := fun _ a ha => absurd ha (Nat.not_lt_zero a)
    one_publish_in_flight := rfl
    one_bucket_in_flight := rfl
    bucket_captured := fun _ => rfl
    bucket_launched := fun _ => rfl
    synchronisers_cleared := nofun
    synchroniser_order_i := fun _ => rfl
    synchroniser_order_r := fun _ => rfl
    ingest_in_reset := nofun
    render_in_reset := nofun }

theorem ingestAtReset_resetOf (c : Config) : ingestAtReset (State.resetOf c) :=
  ⟨rfl, rfl, rfl, rfl, rfl, rfl, rfl, rfl, rfl, rfl, rfl, rfl, rfl, rfl, rfl⟩

theorem renderAtReset_resetOf (c : Config) : renderAtReset (State.resetOf c) :=
  ⟨rfl, rfl, rfl, rfl, rfl, rfl, rfl, rfl, rfl, rfl, rfl, rfl, rfl, rfl, rfl⟩

/-- Of the status word only the bucket field is not 0 after reset. -/
theorem status_resetOf (c : Config) : status (State.resetOf c) = BitVec.setWidth 32 c.RESET_BUCKET <<< 28 := by
  have h : ∀ b : Bucket, 0#1 ++ b ++ 0#1 ++ 0#1 ++ 0#1 ++ 0#1 ++ 0#4 ++ 0#20 = BitVec.setWidth 32 b <<< 28 := by
    decide
  exact h c.RESET_BUCKET

end Sys2Proof.Machine

namespace Sys2Proof.Machine.State.Inv

variable {s : State}

/-! ## Events that are no edge -/

/-- The invariant says nothing of the environment (notes/assumptions/2.md). -/
theorem takeInput_inv (h : s.Inv) : (takeInput s).Inv := by
  unfold takeInput
  split
  · exact { h with }
  · exact { h with }

/-- The reset values meet the invariant, and the memories, which stay, have met it before. -/
theorem assertReset_inv (h : s.Inv) : (assertReset s).Inv :=
  { resetMeetsTheInvariant s.cfg with
    next_canonical := h.next_canonical
    next_in_frame := h.next_in_frame
    current_canonical := h.current_canonical
    current_in_frame := h.current_in_frame
    init_cleared := fun _ a ha => absurd ha (Nat.not_lt_zero a)
    synchronisers_cleared := fun _ => ⟨rfl, rfl, rfl, rfl⟩
    synchroniser_order_i := nofun
    synchroniser_order_r := nofun
    ingest_in_reset := fun _ => ingestAtReset_resetOf s.cfg
    render_in_reset := fun _ => renderAtReset_resetOf s.cfg }

/-- The rise of rst_n takes no domain out of reset: a synchroniser that was cleared still holds 0. -/
theorem releaseReset_inv (h : s.Inv) : { s with rst_n := true }.Inv :=
  { h with
    synchronisers_cleared := nofun
    ingest_in_reset := fun hr => h.ingest_in_reset (by simp [runsI, show s.rsync_i2 = false from hr])
    render_in_reset := fun hr => h.render_in_reset (by simp [runsR, show s.rsync_r2 = false from hr]) }

theorem resetEdgeI_inv (h : s.Inv) (hr : runsI s = false) : (resetEdgeI s).Inv :=
  { h with
    synchronisers_cleared := fun hn => by
      obtain ⟨-, -, h3, h4⟩ := h.synchronisers_cleared hn
      have hn : s.rst_n = false := hn
      simp [hn, h3, h4]
    synchroniser_order_i := fun h2 => (Bool.and_eq_true_iff.1 h2).1
    ingest_in_reset := fun _ => h.ingest_in_reset hr }

theorem resetEdgeR_inv (h : s.Inv) (hr : runsR s = false) : (resetEdgeR s).Inv :=
  { h with
    synchronisers_cleared := fun hn => by
      obtain ⟨h1, h2, -, -⟩ := h.synchronisers_cleared hn
      have hn : s.rst_n = false := hn
      simp [hn, h1, h2]
    synchroniser_order_r := fun h2 => (Bool.and_eq_true_iff.1 h2).1
    render_in_reset := fun _ => h.render_in_reset hr }

end Sys2Proof.Machine.State.Inv

namespace Sys2Proof.Machine

/-! ## The rings of the two handshakes (40_frame_store.md rule R130, 43_commands.md rules R222 and R226) -/

/-- A launch finds request and acknowledge equal, so the ring is still, and its flip is the only one. -/
theorem atMostOneFlip_ingest {req s1 s2 ack a1 a2 : Bool} (dirty : Bool)
    (h : atMostOneFlip [req, s1, s2, ack, a1, a2] = true) :
    atMostOneFlip [if dirty && a2 == req then !req else req, s1, s2, ack, ack, a1] = true := by
  revert req s1 s2 ack a1 a2 dirty
  decide

/-- A DOM_R step moves what is in flight one place on. -/
theorem atMostOneFlip_render {req s1 s2 ack a1 a2 : Bool} (h : atMostOneFlip [req, s1, s2, ack, a1, a2] = true) :
    atMostOneFlip [req, req, s1, s2, a1, a2] = true := by
  revert req s1 s2 ack a1 a2
  decide

/-- A launch leaves a request that has not been acknowledged. -/
theorem ack_ne_of_launch {req s1 s2 ack a1 a2 : Bool} (h : atMostOneFlip [req, s1, s2, ack, a1, a2] = true)
    (hl : a2 = req) : ack ≠ !req := by
  revert req s1 s2 ack a1 a2
  decide

/-- The registers that parts 1 and 2 of the DOM_I step write (43_commands.md rule R211). -/
theorem ingestParts_eq (s : State) : ingestParts s =
    { s with
      pack_s1 := s.pub_ack, pack_s2 := s.pack_s1, back_s1 := s.bkt_ack, back_s2 := s.back_s1
      pub_req := if pubLaunches s then !s.pub_req else s.pub_req
      pub_dirty := if pubLaunches s then false else s.pub_dirty
      bucket_x := if bktLaunches s then s.bucket_i else s.bucket_x
      bkt_req := if bktLaunches s then !s.bkt_req else s.bkt_req
      bkt_dirty := if bktLaunches s then false else s.bkt_dirty } := rfl

end Sys2Proof.Machine

namespace Sys2Proof.Machine.State.Inv

variable {s : State}

/-! ## The DOM_I step -/

theorem ingestParts_inv (h : s.Inv) (hr : runsI s = true) : (ingestParts s).Inv := by
  rw [ingestParts_eq]
  exact { h with
    one_publish_in_flight := atMostOneFlip_ingest s.pub_dirty h.one_publish_in_flight
    one_bucket_in_flight := atMostOneFlip_ingest s.bkt_dirty h.one_bucket_in_flight
    bucket_captured := by
      by_cases hl : bktLaunches s = true
      · have hne : s.bkt_ack ≠ !s.bkt_req :=
          ack_ne_of_launch h.one_bucket_in_flight (by simp_all [bktLaunches])
        simp [hl, hne]
      · simpa [hl] using h.bucket_captured
    bucket_launched := by
      by_cases hl : bktLaunches s = true
      · simp [hl]
      · simpa [hl] using h.bucket_launched
    ingest_in_reset := fun hn => absurd hr (ne_true_of_eq_false hn) }

theorem raise_inv (h : s.Inv) (hr : runsI s = true) (e : ErrorCause) : (raise e s).Inv := by
  cases e <;> exact { h with ingest_in_reset := fun hn => absurd hr (ne_true_of_eq_false hn) }

theorem exec_inv {i : Instr} {t : State} (h : s.Inv) (hr : runsI s = true) (ht : exec i s = .next t) : t.Inv := by
  have hnr : runsI s ≠ false := by simp [hr]
  rcases exec_cases ht with ⟨-, rfl⟩ | ⟨v, -, -, rfl⟩ | ⟨v, -, -, ht⟩ | ⟨n, -, -, rfl⟩ | ⟨n, -, -, rfl⟩ |
    ⟨b, -, rfl⟩ | ⟨-, rfl⟩ | ⟨-, rfl⟩
  · exact h
  · exact { h with ingest_in_reset := fun hn => absurd hn hnr }
  · obtain ⟨hc, rfl⟩ := storeByte_eq_next.1 ht
    exact { h with
      cursor_in_frame := cursorAfterStore_lt hc
      next_canonical := Memory.write_wf h.next_canonical _ v
      next_in_frame := Memory.write_below h.next_in_frame hc v
      ingest_in_reset := fun hn => absurd hn hnr }
  · exact { h with cursor_in_frame := s.cfg.N_pos, ingest_in_reset := fun hn => absurd hn hnr }
  · exact { h with ingest_in_reset := fun hn => absurd hn hnr }
  · exact { h with bucket_launched := nofun, ingest_in_reset := fun hn => absurd hn hnr }
  · exact { h with ingest_in_reset := fun hn => absurd hn hnr }
  · exact h.raise_inv hr .cmd

theorem edgeI_inv {v : Bool} {w : Word} {t : State} (h : s.Inv) (ht : edgeI v w s = .next t) : t.Inv := by
  rcases edgeI_cases ht with ⟨hr, rfl⟩ | ⟨hr, -, rfl⟩ | ⟨hr, -, -, rfl⟩ | ⟨hr, -, i, -, ht⟩
  · exact h.resetEdgeI_inv hr
  · exact h.ingestParts_inv hr
  · exact (h.ingestParts_inv hr).raise_inv hr .arg
  · exact (h.ingestParts_inv hr).exec_inv hr ht

end Sys2Proof.Machine.State.Inv

namespace Sys2Proof.Machine

/-! ## The DOM_R step, in parts
The handshakes move on in every state of the FSM, and then the FSM takes its own step. -/

/-- The state after the handshakes' part of a DOM_R step, `pend` being the pending mark that the step leaves. -/
def handshakeParts (pend : Bool) (s : State) : State :=
  { s with
    preq_s1 := s.pub_req, preq_s2 := s.preq_s1, pub_ack := s.preq_s2, pend_r := pend
    breq_s1 := s.bkt_req, breq_s2 := s.breq_s1, bkt_ack := s.breq_s2
    bucket_r := if bktArrives s then s.bucket_x else s.bucket_r }

theorem handshakeParts_cfg (pend : Bool) (s : State) : (handshakeParts pend s).cfg = s.cfg := rfl

theorem pendCapture_renderParts_eq_handshakeParts (s : State) :
    pendCapture s (renderParts s) = handshakeParts (if pubArrives s then true else s.pend_r) s :=
  pendCapture_renderParts s

/-- The state with another place of the FSM: its state, the byte index, the scan position and what goes with it. -/
def State.setPlace (st : RenderState) (k : BitVec 20) (p : Plane) (r : BitVec 5) (j : Nat) (addr : BitVec 5)
    (b : Bucket) (s : State) : State :=
  { s with st := st, k := k, p := p, r := r, j := j, addr_reg := addr, pass_bucket := b }

/-- The place that an IDLE step leaves. -/
theorem idleStep_eq (s : State) : bucketLatch s (swapDecision s (renderParts s)) =
    if swapTaken s then (handshakeParts false s).setPlace .copy 0 s.p s.r s.j s.addr_reg s.bucket_r
    else (handshakeParts false s).setPlace .scan s.k 0 0 0 s.addr_reg s.bucket_r := by
  unfold swapDecision handshakeParts
  rw [← bkt_ack_after s]
  by_cases h : swapTaken s = true
  · rw [if_pos h, if_pos h]; rfl
  · rw [if_neg h, if_neg h]; rfl

/-- A SCAN step writes the FSM's place only, and ADDR only where the ADDR phase begins (42_scan.md rule R180). -/
theorem scanStep_eq (pre s : State) : scanStep pre s =
    s.setPlace (scanStep pre s).st s.k (scanStep pre s).p (scanStep pre s).r (scanStep pre s).j
      (if pre.j + 1 = shiftLength pre.cfg then pre.r else s.addr_reg) s.pass_bucket := by
  unfold scanStep
  by_cases h1 : pre.j + 1 < slotLength pre.cfg pre.pass_bucket pre.p
  · simp only [if_pos h1]; rfl
  · by_cases h2 : pre.r.toNat + 1 < pre.cfg.R
    · simp only [if_neg h1, if_pos h2]; rfl
    · by_cases h3 : pre.p < 10
      · simp only [if_neg h1, if_neg h2, if_pos h3]; rfl
      · simp only [if_neg h1, if_neg h2, if_neg h3]; rfl

end Sys2Proof.Machine

namespace Sys2Proof.Machine.State.Inv

variable {s : State}

/-! ## The DOM_R step keeps the invariant -/

/-- A bucket that is acknowledged in this step is captured in it (43_commands.md rule R228). -/
theorem handshakeParts_inv (h : s.Inv) (hr : runsR s = true) (pend : Bool) : (handshakeParts pend s).Inv :=
  { h with
    one_publish_in_flight := atMostOneFlip_render h.one_publish_in_flight
    one_bucket_in_flight := atMostOneFlip_render h.one_bucket_in_flight
    bucket_captured := fun ha => by
      have ha : s.breq_s2 = s.bkt_req := ha
      show (if bktArrives s then s.bucket_x else s.bucket_r) = s.bucket_x
      by_cases hb : bktArrives s = true
      · rw [if_pos hb]
      · rw [if_neg hb]
        exact h.bucket_captured (by simp_all [bktArrives])
    render_in_reset := fun hn => absurd hr (ne_true_of_eq_false hn) }

/-- The byte at k may change: the bytes that INIT has cleared are below it. -/
theorem writeAtK_inv (h : s.Inv) (v : Byte) : { s with current := s.current.write s.k.toNat v }.Inv :=
  { h with
    current_canonical := Memory.write_wf h.current_canonical _ v
    current_in_frame := Memory.write_below h.current_in_frame h.k_in_frame v
    init_cleared := fun hs a ha =>
      (Memory.read_write_other (Nat.ne_of_lt ha) _ v).trans (h.init_cleared hs a ha) }

/-- INIT and COPY go on to the next byte. -/
theorem nextByte_inv (h : s.Inv) (hr : runsR s = true) (hs : s.st = .init ∨ s.st = .copy) (hk : kAtEnd s = false)
    (hc : s.st = .init → s.current.read s.k.toNat = 0) : { s with k := s.k + 1 }.Inv :=
  have hsucc : (s.k + 1).toNat = s.k.toNat + 1 := k_succ_toNat h.k_in_frame
  { h with
    k_in_frame := by
      have h1 := h.k_in_frame
      have h2 : s.k.toNat ≠ s.cfg.N - 1 := of_decide_eq_false hk
      show (s.k + 1).toNat < s.cfg.N
      omega
    k_zero := fun h' => by rcases hs with hs | hs <;> simp [hs] at h'
    init_cleared := fun hi a ha => by
      have ha : a < (s.k + 1).toNat := ha
      rcases Nat.lt_succ_iff_lt_or_eq.1 (hsucc ▸ ha) with hlt | rfl
      · exact h.init_cleared hi a hlt
      · exact hc hi
    render_in_reset := fun hn => absurd hr (ne_true_of_eq_false hn) }

/-- The FSM goes to a place outside INIT that is in range. -/
theorem setPlace_inv (h : s.Inv) (hr : runsR s = true) {st : RenderState} {p : Plane} {r : BitVec 5} {j : Nat}
    {addr : BitVec 5} {b : Bucket} (hst : st ≠ .init) (hrow : r.toNat < s.cfg.R) (haddr : addr.toNat < s.cfg.R)
    (hzero : st ≠ .scan → p = 0 ∧ r = 0 ∧ j = 0) (hj : st = .scan → j < slotLength s.cfg b p)
    (hhold : st = .scan → shiftLength s.cfg ≤ j → addr = r) : (s.setPlace st 0 p r j addr b).Inv :=
  { h with
    k_in_frame := s.cfg.N_pos
    k_zero := fun _ => rfl
    row_in_range := hrow
    position_zero := hzero
    j_in_slot := hj
    addr_in_range := haddr
    addr_holds_row := hhold
    init_cleared := fun hi => absurd hi hst
    render_in_reset := fun hn => absurd hr (ne_true_of_eq_false hn) }

/-- A slot begins before its ADDR phase, so ADDR may still show another row. -/
theorem startSlot_inv (h : s.Inv) (hr : runsR s = true) {r : BitVec 5} {addr : BitVec 5} (hrow : r.toNat < s.cfg.R)
    (haddr : addr.toNat < s.cfg.R) (p : Plane) (b : Bucket) : (s.setPlace .scan 0 p r 0 addr b).Inv :=
  have hs := shiftLength_pos s.cfg
  h.setPlace_inv hr nofun hrow haddr nofun (fun _ => by have := slotLength_pos s.cfg b p; omega)
    (fun _ hj => by omega)

theorem initStep_inv {t : State} (h : s.Inv) (hr : runsR s = true) (hs : s.st = .init)
    (ht : initStep s (pendCapture s (renderParts s)) = .next t) : t.Inv := by
  rw [pendCapture_renderParts_eq_handshakeParts] at ht
  generalize (if pubArrives s then true else s.pend_r) = pend at ht
  obtain ⟨-, rfl⟩ := (initStep_eq_next (handshakeParts_cfg pend s)).1 ht
  have hu := (h.handshakeParts_inv hr pend).writeAtK_inv 0
  cases hk : kAtEnd s with
  | true =>
    have hz : s.p = 0 ∧ s.r = 0 ∧ s.j = 0 := h.position_zero (by simp [hs])
    exact hu.setPlace_inv hr (st := .idle) nofun h.row_in_range h.addr_in_range (fun _ => hz) nofun nofun
  | false =>
    exact hu.nextByte_inv hr (.inl hs) hk fun _ => Memory.read_write_same h.current_canonical _ _

theorem copyStep_inv {t : State} (h : s.Inv) (hr : runsR s = true) (hs : s.st = .copy)
    (ht : copyStep s (pendCapture s (renderParts s)) = .next t) : t.Inv := by
  rw [pendCapture_renderParts_eq_handshakeParts] at ht
  generalize (if pubArrives s then true else s.pend_r) = pend at ht
  obtain ⟨-, rfl⟩ := (copyStep_eq_next (handshakeParts_cfg pend s)).1 ht
  have hu := (h.handshakeParts_inv hr pend).writeAtK_inv (s.next.read s.k.toNat)
  cases hk : kAtEnd s with
  | true => exact hu.startSlot_inv hr (r := 0) s.cfg.R_pos h.addr_in_range 0 s.pass_bucket
  | false => exact hu.nextByte_inv hr (.inr hs) hk fun hi => by cases hs.symm.trans hi

theorem idleStep_inv (h : s.Inv) (hr : runsR s = true) (hs : s.st = .idle) :
    (bucketLatch s (swapDecision s (renderParts s))).Inv := by
  rw [idleStep_eq]
  have hu := h.handshakeParts_inv hr false
  by_cases ht : swapTaken s = true
  · rw [if_pos ht]
    have hz : s.p = 0 ∧ s.r = 0 ∧ s.j = 0 := h.position_zero (by simp [hs])
    exact hu.setPlace_inv hr nofun h.row_in_range h.addr_in_range (fun _ => hz) nofun nofun
  · rw [if_neg ht, h.k_zero (.inl hs)]
    exact hu.startSlot_inv hr (r := 0) s.cfg.R_pos h.addr_in_range 0 s.bucket_r

theorem scanStep_inv (h : s.Inv) (hr : runsR s = true) (hs : s.st = .scan) :
    (scanStep s (pendCapture s (renderParts s))).Inv := by
  rw [pendCapture_renderParts_eq_handshakeParts]
  generalize (if pubArrives s then true else s.pend_r) = pend
  have hu := h.handshakeParts_inv hr pend
  have haddr : (if s.j + 1 = shiftLength s.cfg then s.r else s.addr_reg).toNat < s.cfg.R := by
    split
    · exact h.row_in_range
    · exact h.addr_in_range
  rw [scanStep_eq, show (handshakeParts pend s).k = 0 from h.k_zero (.inr hs)]
  rcases scanStep_cases s (handshakeParts pend s) with ⟨hj, hst, hp, hrow, hj'⟩ | ⟨-, hR, hst, hp, hrow, hj'⟩ |
    ⟨-, -, -, hst, hp, hrow, hj'⟩ | ⟨-, -, -, hst, hp, hrow, hj'⟩
  · rw [hst, hp, hrow, hj']
    have hhold : shiftLength s.cfg ≤ s.j + 1 →
        (if s.j + 1 = shiftLength s.cfg then s.r else s.addr_reg) = s.r := fun hle => by
      split
      · rfl
      · exact h.addr_holds_row hs (by omega)
    exact hu.setPlace_inv hr (fun hn => by cases hs.symm.trans hn) h.row_in_range haddr (fun hn => absurd hs hn)
      (fun _ => hj) fun _ => hhold
  · rw [hst, hp, hrow, hj', show (handshakeParts pend s).st = .scan from hs]
    have hR' : (s.r + 1).toNat < s.cfg.R := by
      have := s.cfg.R_le
      rw [BitVec.toNat_add, show (1 : BitVec 5).toNat = 1 from rfl]
      omega
    exact hu.startSlot_inv hr hR' haddr _ _
  · rw [hst, hp, hrow, hj', show (handshakeParts pend s).st = .scan from hs]
    exact hu.startSlot_inv hr (r := 0) s.cfg.R_pos haddr _ _
  · rw [hst, hp, hrow, hj']
    exact hu.setPlace_inv hr nofun s.cfg.R_pos haddr (fun _ => ⟨rfl, rfl, rfl⟩) nofun nofun

theorem renderStep_inv {t : State} (h : s.Inv) (hr : runsR s = true) (ht : renderStep s = .next t) : t.Inv := by
  rcases renderStep_cases ht with ⟨hs, ht⟩ | ⟨hs, rfl⟩ | ⟨hs, ht⟩ | ⟨hs, rfl⟩
  · exact h.initStep_inv hr hs ht
  · exact h.idleStep_inv hr hs
  · exact h.copyStep_inv hr hs ht
  · exact h.scanStep_inv hr hs

theorem edgeR_inv {t : State} (h : s.Inv) (ht : edgeR s = .next t) : t.Inv := by
  rcases edgeR_cases ht with ⟨hr, rfl⟩ | ⟨hr, ht⟩
  · exact h.resetEdgeR_inv hr
  · exact h.renderStep_inv hr ht

/-! ## Every event -/

theorem event_inv {e : Input} {t : State} (h : s.Inv) (ht : event e s = .next t) : t.Inv := by
  rcases event_cases ht with ⟨v, w, -, ht⟩ | ⟨-, ht⟩ | ⟨-, rfl⟩ | ⟨-, rfl⟩
  · exact h.edgeI_inv ht
  · exact h.edgeR_inv ht
  · exact h.releaseReset_inv
  · exact h.assertReset_inv

/-- The invariant holds all along a run. -/
theorem feed_inv {l : List Input} {t : State} (h : s.Inv) (ht : feed l s = .next t) : t.Inv := by
  induction l generalizing s with
  | nil => exact Host.Outcome.next.inj ht ▸ h
  | cons e l ih =>
    obtain ⟨u, hu, ht⟩ := feed_cons_eq_next.1 ht
    exact ih (h.event_inv hu) ht

end Sys2Proof.Machine.State.Inv

namespace Sys2Proof.Machine

/-- Settles O50: taking the next input keeps the invariant, and so does every event. -/
theorem stepKeepsTheInvariant : Obligations.StepKeepsTheInvariant :=
  fun _ _ h ht => h.takeInput_inv.event_inv ht

/-! ## INIT clears `current` (rule R56, 40_frame_store.md rule R135) -/

/-- What an INIT step does to the registers that matter to INIT. -/
theorem event_clk_r_init {s : State} (hr : runsR s = true) (hs : s.st = .init) (hk : s.k.toNat < s.cfg.N) :
    ∃ u, event .clk_r s = .next u ∧ runsR u = true ∧ u.cfg = s.cfg ∧ u.next = s.next ∧
      u.current = s.current.write s.k.toNat 0 ∧ (u.st = if kAtEnd s then .idle else .init) ∧
      u.k = if kAtEnd s then 0 else s.k + 1 := by
  have he : event .clk_r s = initStep s (pendCapture s (renderParts s)) := by
    show edgeR s = _
    unfold edgeR renderStep
    rw [if_pos hr, hs]
  rw [pendCapture_renderParts_eq_handshakeParts] at he
  have hn := he.trans ((initStep_eq_next (handshakeParts_cfg _ s)).2 ⟨hk, rfl⟩)
  by_cases h : kAtEnd s = true
  · rw [if_pos h] at hn
    rw [if_pos h, if_pos h]
    exact ⟨_, hn, hr, rfl, rfl, rfl, rfl, rfl⟩
  · rw [if_neg h] at hn
    rw [if_neg h, if_neg h]
    exact ⟨_, hn, hr, rfl, rfl, rfl, hs, rfl⟩

/-- INIT clears byte k and all after it. By induction on the number of bytes after byte k. -/
theorem feed_init {s : State} {n : Nat} (hr : runsR s = true) (hs : s.st = .init) (hk : s.k.toNat + n + 1 = s.cfg.N)
    (hw : s.current.wf = true) (hc : ∀ a, a < s.k.toNat → s.current.read a = 0) :
    ∃ t, feed (List.replicate (n + 1) .clk_r) s = .next t ∧
      t.st = .idle ∧ t.next = s.next ∧ ∀ a, a < s.cfg.N → t.current.read a = 0 := by
  induction n generalizing s with
  | zero =>
    obtain ⟨u, hu, -, -, hnext, hcur, hst, -⟩ := event_clk_r_init hr hs (by omega)
    have hend : kAtEnd s = true := decide_eq_true (by omega)
    refine ⟨u, feed_cons_eq_next.2 ⟨u, hu, feed_nil u⟩, by rw [hst, if_pos hend], hnext, fun a ha => ?_⟩
    rw [hcur]
    exact Memory.read_write_zero_below_succ hw hc a (by omega)
  | succ n ih =>
    obtain ⟨u, hu, hru, hcfg, hnext, hcur, hst, hku⟩ := event_clk_r_init hr hs (by omega)
    have hend : kAtEnd s = false := decide_eq_false (by omega)
    simp only [hend, Bool.false_eq_true, if_false] at hst hku
    have hsucc : u.k.toNat = s.k.toNat + 1 := by rw [hku, k_succ_toNat (by omega)]
    obtain ⟨t, ht, hidle, hnext', hclear⟩ := ih hru hst (by rw [hsucc, hcfg]; omega)
      (hcur ▸ Memory.write_wf hw _ _) (by rw [hsucc, hcur]; exact Memory.read_write_zero_below_succ hw hc)
    exact ⟨t, feed_cons_eq_next.2 ⟨u, hu, ht⟩, hidle, hnext'.trans hnext, hcfg ▸ hclear⟩

/-- Settles O8: the registers one by one, then INIT from byte 0. -/
theorem resetLeavesTheTabledValues : Obligations.ResetLeavesTheTabledValues := by
  intro c
  refine ⟨rfl, ingestAtReset_resetOf c, renderAtReset_resetOf c, rfl, status_resetOf c, fun m m' hm' => ?_⟩
  obtain ⟨n, hn⟩ := Nat.exists_eq_add_one.2 c.N_pos
  have h := feed_init (s := { State.resetOf c with next := m, current := m' }) (n := n) rfl rfl
    (show 0 + n + 1 = c.N by omega) hm' fun a ha => absurd ha (Nat.not_lt_zero a)
  rwa [← hn] at h

end Sys2Proof.Machine
end

section
/-! SUPPORT. The obligations of 20_memory.md: COPY takes each byte of `next` at its own step (rules R77 and R78), and a
published frame that is left alone reaches `current` whole (rules R76 and R85). -/

namespace Sys2Proof.Machine

/-! ## The DOM_I step beside a COPY -/

/-- A clk_i edge leaves the clk_r registers, `current` and clk_r's reset synchroniser alone. -/
theorem edgeI_frame {v : Bool} {w : Word} {s t : State} (h : edgeI v w s = .next t) :
    t = { s with
      next := t.next, cursor := t.cursor, discard := t.discard, bucket_i := t.bucket_i
      err_cmd := t.err_cmd, err_arg := t.err_arg, err_len := t.err_len
      pub_dirty := t.pub_dirty, pub_req := t.pub_req, pack_s1 := t.pack_s1, pack_s2 := t.pack_s2
      bkt_dirty := t.bkt_dirty, bkt_req := t.bkt_req, back_s1 := t.back_s1, back_s2 := t.back_s2
      bucket_x := t.bucket_x, rsync_i1 := t.rsync_i1, rsync_i2 := t.rsync_i2 } := by
  rcases edgeI_cases h with ⟨-, rfl⟩ | ⟨-, -, rfl⟩ | ⟨-, -, -, rfl⟩ | ⟨-, -, i, -, h⟩
  · rfl
  · rfl
  · rfl
  · rw [exec_frame h]; rfl

/-- Every command has a next state, a store because its offset is in the frame (20_memory.md rule R71). -/
theorem exists_exec_eq_next (i : Instr) {s : State} (hc : s.cursor.toNat < s.cfg.N) : ∃ t, exec i s = .next t := by
  cases i with
  | writeByte val =>
    by_cases hd : s.discard ≠ 0
    · exact ⟨_, if_pos hd⟩
    · exact ⟨_, (if_neg hd).trans (storeByte_eq_next.2 ⟨hc, rfl⟩)⟩
  | submit len =>
    by_cases hl : lenIsFrame s len = true
    · exact ⟨_, if_pos hl⟩
    · exact ⟨_, if_neg hl⟩
  | _ => exact ⟨_, rfl⟩

theorem exists_edgeI_eq_next (v : Bool) (w : Word) {s : State} (hc : s.cursor.toNat < s.cfg.N) :
    ∃ t, edgeI v w s = .next t := by
  by_cases hr : runsI s = true
  · unfold edgeI
    rw [if_pos hr]
    cases v with
    | false => exact ⟨_, rfl⟩
    | true =>
      show ∃ t, commandWord w (ingestParts s) = .next t
      unfold commandWord
      cases decode w with
      | ok i => exact exists_exec_eq_next i hc
      | error e => exact ⟨_, rfl⟩
  · exact ⟨_, if_neg hr⟩

/-! ## The COPY step (40_frame_store.md rule R134) -/

/-- The first n bytes of a COPY are done: the FSM is at byte n, or in SCAN once all N are done. -/
def copiedBytes (n : Nat) (s : State) : Prop :=
  (n < s.cfg.N ∧ s.st = .copy ∧ s.k.toNat = n) ∨ (n = s.cfg.N ∧ s.st = .scan)

theorem copiedBytes_congr {n : Nat} {s t : State} (hcfg : t.cfg = s.cfg) (hst : t.st = s.st) (hk : t.k = s.k) :
    copiedBytes n t ↔ copiedBytes n s := by
  simp only [copiedBytes, hcfg, hst, hk]

/-- A DOM_R step in COPY copies the byte at k and goes on to the next one. -/
theorem renderStep_copy {s : State} (hs : s.st = .copy) (hk : s.k.toNat < s.cfg.N) :
    ∃ t, renderStep s = .next t ∧ copiedBytes (s.k.toNat + 1) t ∧
      t.current = s.current.write s.k.toNat (s.next.read s.k.toNat) := by
  have hstep : renderStep s = copyStep s (pendCapture s (renderParts s)) := by unfold renderStep; rw [hs]
  have hnext := hstep.trans ((copyStep_eq_next (by simp)).2 ⟨hk, rfl⟩)
  by_cases hend : kAtEnd s = true
  · rw [if_pos hend] at hnext
    have hN : s.k.toNat = s.cfg.N - 1 := of_decide_eq_true hend
    exact ⟨_, hnext, .inr ⟨show _ = s.cfg.N by omega, rfl⟩, rfl⟩
  · rw [if_neg hend] at hnext
    have hN : s.k.toNat ≠ s.cfg.N - 1 := fun h => hend (decide_eq_true h)
    exact ⟨_, hnext, .inl ⟨show _ < s.cfg.N by omega, hs, k_succ_toNat hk⟩, rfl⟩

/-- A clk_r edge out of reset is a DOM_R step. -/
theorem event_clk_r {s : State} (hr : runsR s = true) : event .clk_r s = renderStep s := if_pos hr

theorem renderStep_cfg {s t : State} (h : renderStep s = .next t) : t.cfg = s.cfg := by rw [renderStep_frame h]

theorem renderStep_runsR {s t : State} (h : renderStep s = .next t) : runsR t = runsR s := by
  rw [renderStep_frame h]; rfl

/-- A run goes on with the COPY by one byte at each clk_r edge, and writes no byte of `current` that is done. -/
theorem feed_copiedBytes {l : List Input} {n : Nat} {s : State} (h : s.Inv) (hr : runsR s = true)
    (hl : noReset l = true) (hn : n + renderEdges l ≤ s.cfg.N) (hs : copiedBytes n s) :
    ∃ t, feed l s = .next t ∧ t.Inv ∧ runsR t = true ∧ t.cfg = s.cfg ∧ copiedBytes (n + renderEdges l) t ∧
      ∀ a, a < n → t.current.read a = s.current.read a := by
  induction l generalizing n s with
  | nil => exact ⟨s, rfl, h, hr, rfl, hs, fun _ _ => rfl⟩
  | cons e l ih =>
    obtain ⟨hne, hl⟩ := (noReset_cons e l).1 hl
    cases e with
    | rst_n b => exact absurd rfl (hne b)
    | clk_i v w =>
      rw [renderEdges_clk_i] at hn ⊢
      obtain ⟨u, hu⟩ := exists_edgeI_eq_next v w h.cursor_in_frame
      have hf := edgeI_frame hu
      have hcfg : u.cfg = s.cfg := by rw [hf]
      have hcur : u.current = s.current := by rw [hf]
      obtain ⟨t, ht, hi, hrt, hcfg', hc, hread⟩ := ih (n := n) (h.edgeI_inv hu) (by rw [hf]; exact hr) hl (hcfg ▸ hn)
        ((copiedBytes_congr hcfg (by rw [hf]) (by rw [hf])).2 hs)
      exact ⟨t, feed_cons_eq_next.2 ⟨u, hu, ht⟩, hi, hrt, hcfg'.trans hcfg, hc, hcur ▸ hread⟩
    | clk_r =>
      rw [renderEdges_clk_r] at hn ⊢
      rcases hs with ⟨hlt, hst, rfl⟩ | ⟨rfl, -⟩
      · obtain ⟨u, hu, hc, hcur⟩ := renderStep_copy hst hlt
        have hcfg := renderStep_cfg hu
        obtain ⟨t, ht, hi, hrt, hcfg', hc', hread⟩ := ih (n := s.k.toNat + 1) (h.renderStep_inv hr hu)
          ((renderStep_runsR hu).trans hr) hl (by rw [hcfg]; omega) hc
        refine ⟨t, feed_cons_eq_next.2 ⟨u, (event_clk_r hr).trans hu, ht⟩, hi, hrt, hcfg'.trans hcfg, ?_, fun a ha => ?_⟩
        · rwa [Nat.add_assoc, Nat.add_comm 1] at hc'
        · rw [hread a (by omega), hcur, Memory.read_write_other (by omega)]
      · omega

/-- Settles O55: the run up to the edge of byte k leaves the COPY at k, that edge copies what `next` then holds at k, and
the rest of the run leaves the byte alone. -/
theorem copyReadsEachByteAtItsStep : Obligations.CopyReadsEachByteAtItsStep := by
  intro s l h hr hs hk hl hN
  have h0 : copiedBytes 0 s := .inl ⟨s.cfg.N_pos, hs, by rw [hk]; rfl⟩
  obtain ⟨t, ht, -, -, hcfg, hdone, -⟩ := feed_copiedBytes h hr hl (by omega) h0
  have hscan : t.st = .scan := by
    rcases hdone with ⟨hlt, -, -⟩ | ⟨-, hscan⟩
    · rw [hcfg] at hlt; omega
    · exact hscan
  refine ⟨t, ht, hscan, ?_⟩
  rintro l1 l2 rfl
  simp only [renderEdges_append, renderEdges_clk_r] at hN
  rw [noReset_append, Bool.and_eq_true] at hl
  obtain ⟨hl1, hl2⟩ := hl
  obtain ⟨u, hu, hiu, hru, hcfgu, hcu, -⟩ := feed_copiedBytes h hr hl1 (by omega) h0
  rw [Nat.zero_add] at hcu
  rcases hcu with ⟨-, hst, hku⟩ | ⟨hend, -⟩
  · obtain ⟨v, hv, hcv, hcur⟩ := renderStep_copy hst hiu.k_in_frame
    have hcfgv := renderStep_cfg hv
    obtain ⟨t', ht', -, -, -, -, hread⟩ := feed_copiedBytes (hiu.renderStep_inv hru hv)
      ((renderStep_runsR hv).trans hru) ((noReset_cons _ _).1 hl2).2 (by rw [hcfgv, hcfgu]; omega) hcv
    have hsame : t' = t := by
      have hall := feed_append_eq_next.2 ⟨u, hu, feed_cons_eq_next.2 ⟨v, (event_clk_r hru).trans hv, ht'⟩⟩
      exact Host.Outcome.next.inj (hall.symm.trans ht)
    refine ⟨u, hu, hku, hst, ?_⟩
    rw [← hku, ← hsame, hread _ (Nat.lt_succ_self _), hcur, Memory.read_write_same hiu.current_canonical]
  · rw [hcfgu] at hend; omega

/-! ## A DOM_I step that does not store -/

theorem noStore_cons {e : Input} {l : List Input} {s : State} (h : noStore (e :: l) s = true) :
    stores e s = false ∧ ∀ t, event e s = .next t → noStore l t = true := by
  unfold noStore at h
  rw [Bool.and_eq_true, Bool.not_eq_true'] at h
  obtain ⟨hs, hl⟩ := h
  exact ⟨hs, fun t ht => by rwa [ht] at hl⟩

theorem stores_of_writeByte {w : Word} {val : Byte} {s : State} (hr : runsI s = true) (hd : s.discard = 0)
    (hw : decode w = .ok (.writeByte val)) : stores (.clk_i true w) s = true := by
  simp [stores, presented, hr, hd, hw]

/-- Only a WRITE_BYTE with nothing to drop writes `next` or publishes (43_commands.md rules R212 and R213). -/
theorem exec_keeps_next_and_pub_dirty {i : Instr} {s t : State} (h : exec i s = .next t)
    (hi : ∀ val, i = .writeByte val → s.discard ≠ 0) : t.next = s.next ∧ t.pub_dirty = s.pub_dirty := by
  rcases exec_cases h with ⟨-, rfl⟩ | ⟨v, -, -, rfl⟩ | ⟨v, hv, hd, -⟩ | ⟨n, -, -, rfl⟩ | ⟨n, -, -, rfl⟩ | ⟨b, -, rfl⟩ |
    ⟨-, rfl⟩ | ⟨-, rfl⟩
  case inr.inr.inl => exact absurd hd (hi v hv)
  all_goals exact ⟨rfl, rfl⟩

/-- A clk_i edge that does not store leaves `next` alone, and of a publish it can only make the launch
(43_commands.md rule R220). -/
theorem edgeI_of_not_stores {v : Bool} {w : Word} {s t : State} (h : edgeI v w s = .next t)
    (hs : stores (.clk_i v w) s = false) : t.next = s.next ∧
      ((t.pub_dirty = s.pub_dirty ∧ t.pub_req = s.pub_req) ∨ (pubLaunches s = true ∧ t.pub_req = !s.pub_req)) := by
  have hparts : ∀ u : State, u.pub_dirty = (ingestParts s).pub_dirty → u.pub_req = (ingestParts s).pub_req →
      (u.pub_dirty = s.pub_dirty ∧ u.pub_req = s.pub_req) ∨ (pubLaunches s = true ∧ u.pub_req = !s.pub_req) := by
    intro u hd hq
    by_cases hl : pubLaunches s = true
    · exact .inr ⟨hl, by rw [hq, ingestParts_pub_req, if_pos hl]⟩
    · exact .inl ⟨by rw [hd, ingestParts_pub_dirty, if_neg hl], by rw [hq, ingestParts_pub_req, if_neg hl]⟩
  rcases edgeI_cases h with ⟨-, rfl⟩ | ⟨-, -, rfl⟩ | ⟨-, -, -, rfl⟩ | ⟨hr, rfl, i, hi, h⟩
  · exact ⟨rfl, .inl ⟨rfl, rfl⟩⟩
  · exact ⟨rfl, hparts _ rfl rfl⟩
  · exact ⟨rfl, hparts _ rfl rfl⟩
  · have hdrop : ∀ val, i = .writeByte val → (ingestParts s).discard ≠ 0 := by
      rintro val rfl hd
      exact absurd (stores_of_writeByte hr hd hi) (ne_true_of_eq_false hs)
    obtain ⟨hnext, hdirty⟩ := exec_keeps_next_and_pub_dirty h hdrop
    exact ⟨hnext, hparts t hdirty (by rw [exec_frame h])⟩

/-! ## A publish on its way to `current` -/

/-- `current` shows what `next` holds, in COPY in the bytes that are done, and no INIT is left to clear it. -/
def showsNext (s : State) : Prop :=
  s.st ≠ .init ∧ ∀ a, a < s.cfg.N → (s.st = .copy → a < s.k.toNat) → s.current.read a = s.next.read a

/-- A COPY that has not begun is still to come, or `current` shows `next` as far as the COPY has come: a publish waits, is
in flight or pending, or has been taken (40_frame_store.md rule R132). -/
def publishUnderWay (s : State) : Prop :=
  s.pub_dirty = true ∨ s.pub_ack ≠ s.pub_req ∨ s.pend_r = true ∨ showsNext s

/-- No edge of DOM_I stops a publish: what it launches is not acknowledged yet (43_commands.md rule R222). -/
theorem edgeI_publishUnderWay {v : Bool} {w : Word} {s t : State} (h : s.Inv) (hp : publishUnderWay s)
    (hs : stores (.clk_i v w) s = false) (ht : edgeI v w s = .next t) : t.next = s.next ∧ publishUnderWay t := by
  obtain ⟨hnext, hpub⟩ := edgeI_of_not_stores ht hs
  have hf := edgeI_frame ht
  have hack : t.pub_ack = s.pub_ack := by rw [hf]
  refine ⟨hnext, ?_⟩
  rcases hpub with ⟨hdirty, hreq⟩ | ⟨hl, hreq⟩
  · have hshow : showsNext t ↔ showsNext s := by
      rw [showsNext, hnext, hf]; rfl
    have hpend : t.pend_r = s.pend_r := by rw [hf]
    rwa [publishUnderWay, hdirty, hack, hreq, hpend, hshow]
  · have hstill : s.pack_s2 = s.pub_req := eq_of_beq (Bool.and_eq_true_iff.1 hl).2
    exact .inr (.inl (by rw [hack, hreq]; exact ack_ne_of_launch h.one_publish_in_flight hstill))

/-- A publish that is pending or arrives stays pending, or IDLE takes it and a COPY begins
(40_frame_store.md rules R131 and R133). -/
theorem renderStep_of_swapTaken {s t : State} (ht : renderStep s = .next t) (hp : swapTaken s = true) :
    t.pend_r = true ∨ copiedBytes 0 t := by
  have hpend : (pendCapture s (renderParts s)).pend_r = true := by
    rcases Bool.or_eq_true_iff.1 hp with h | h <;> simp [h]
  rcases renderStep_cases ht with ⟨-, ht⟩ | ⟨-, rfl⟩ | ⟨-, ht⟩ | ⟨-, rfl⟩
  · obtain ⟨-, rfl⟩ := (initStep_eq_next (by simp)).1 ht
    exact .inl (by split <;> exact hpend)
  · exact .inr (.inl ⟨Config.N_pos _, by simp [hp], by simp [hp]⟩)
  · obtain ⟨-, rfl⟩ := (copyStep_eq_next (by simp)).1 ht
    exact .inl (by split <;> exact hpend)
  · exact .inl (by simpa using hpend)

/-- A COPY that has copied its first n bytes shows `next` when these bytes agree. -/
theorem showsNext_of_copiedBytes {n : Nat} {s : State} (hc : copiedBytes n s)
    (h : ∀ a, a < n → s.current.read a = s.next.read a) : showsNext s := by
  rcases hc with ⟨-, hst, hk⟩ | ⟨hN, hst⟩
  · exact ⟨by simp [hst], fun a _ ha => h a (hk ▸ ha hst)⟩
  · exact ⟨by simp [hst], fun a ha _ => h a (hN ▸ ha)⟩

theorem scanStep_st (pre s : State) : (scanStep pre s).st = s.st ∨ (scanStep pre s).st = .idle := by
  rcases scanStep_cases pre s with ⟨-, hst, -⟩ | ⟨-, -, hst, -⟩ | ⟨-, -, -, hst, -⟩ | ⟨-, -, -, hst, -⟩
  · exact .inl hst
  · exact .inl hst
  · exact .inl hst
  · exact .inr hst

/-- A COPY step extends what `current` shows by one byte. -/
theorem renderStep_copy_showsNext {s t : State} (h : s.Inv) (hst : s.st = .copy) (hs : showsNext s)
    (ht : renderStep s = .next t) : showsNext t := by
  obtain ⟨-, hread⟩ := hs
  obtain ⟨u, hu, hc, hcur⟩ := renderStep_copy hst h.k_in_frame
  obtain rfl : u = t := Host.Outcome.next.inj (hu.symm.trans ht)
  refine showsNext_of_copiedBytes hc fun a ha => ?_
  rw [hcur, show u.next = s.next by rw [renderStep_frame ht]]
  by_cases hk : a = s.k.toNat
  · rw [hk, Memory.read_write_same h.current_canonical]
  · have hlt : a < s.k.toNat := by omega
    rw [Memory.read_write_other hk, hread a (hlt.trans h.k_in_frame) fun _ => hlt]

/-- IDLE and SCAN leave `current` as it is, and COPY writes to it what `next` holds. -/
theorem renderStep_showsNext {s t : State} (h : s.Inv) (hs : showsNext s) (ht : renderStep s = .next t) :
    showsNext t := by
  have ⟨hinit, hread⟩ := hs
  have hcfg := renderStep_cfg ht
  rcases renderStep_cases ht with ⟨hst, -⟩ | ⟨hst, rfl⟩ | ⟨hst, -⟩ | ⟨hst, rfl⟩
  · exact absurd hst hinit
  · refine ⟨?_, fun a ha _ => by simpa using hread a (hcfg ▸ ha) (by simp [hst])⟩
    cases h : swapTaken s <;> simp [h]
  · exact renderStep_copy_showsNext h hst hs ht
  · refine ⟨?_, fun a ha _ => by simpa using hread a (hcfg ▸ ha) (by simp [hst])⟩
    rcases scanStep_st s (pendCapture s (renderParts s)) with h | h
    · simpa [h] using hinit
    · simp [h]

/-- No DOM_R step loses a publish: a request that it acknowledges becomes pending or is taken. -/
theorem renderStep_publishUnderWay {s t : State} (h : s.Inv) (hp : publishUnderWay s) (ht : renderStep s = .next t) :
    publishUnderWay t := by
  have hf := renderStep_frame ht
  have hdirty : t.pub_dirty = s.pub_dirty := by rw [hf]
  have hreq : t.pub_req = s.pub_req := by rw [hf]
  have hack : t.pub_ack = s.preq_s2 := by rw [hf]
  have htaken : swapTaken s = true → publishUnderWay t := fun hs =>
    .inr (.inr ((renderStep_of_swapTaken ht hs).imp_right fun hc =>
      showsNext_of_copiedBytes hc fun a ha => absurd ha (Nat.not_lt_zero a)))
  rcases hp with hp | hp | hp | hp
  · exact .inl (hdirty.trans hp)
  · by_cases ha : pubArrives s = true
    · exact htaken (by simp [swapTaken, ha])
    · have hkeep : s.preq_s2 = s.pub_ack := by simpa [pubArrives] using ha
      exact .inr (.inl (by rwa [hack, hreq, hkeep]))
  · exact htaken (by simp [swapTaken, hp])
  · exact .inr (.inr (.inr (renderStep_showsNext h hp ht)))

theorem edgeR_publishUnderWay {s t : State} (h : s.Inv) (hp : publishUnderWay s) (ht : edgeR s = .next t) :
    t.next = s.next ∧ publishUnderWay t := by
  rcases edgeR_cases ht with ⟨-, rfl⟩ | ⟨-, ht⟩
  · exact ⟨rfl, hp⟩
  · exact ⟨by rw [renderStep_frame ht], renderStep_publishUnderWay h hp ht⟩

/-- A publish is under way all along a run that neither stores nor resets. -/
theorem feed_publishUnderWay {l : List Input} {s t : State} (h : s.Inv) (hp : publishUnderWay s)
    (hl : noReset l = true) (hs : noStore l s = true) (ht : feed l s = .next t) :
    t.next = s.next ∧ publishUnderWay t := by
  induction l generalizing s with
  | nil => exact Host.Outcome.next.inj ht ▸ ⟨rfl, hp⟩
  | cons e l ih =>
    obtain ⟨hne, hl⟩ := (noReset_cons e l).1 hl
    obtain ⟨hse, hsl⟩ := noStore_cons hs
    obtain ⟨u, hu, ht⟩ := feed_cons_eq_next.1 ht
    have hstep : u.next = s.next ∧ publishUnderWay u := by
      cases e with
      | rst_n b => exact absurd rfl (hne b)
      | clk_i v w => exact edgeI_publishUnderWay h hp hse hu
      | clk_r => exact edgeR_publishUnderWay h hp hu
    obtain ⟨hnext, hpu⟩ := hstep
    obtain ⟨hnext', hpt⟩ := ih (h.event_inv hu) hpu hl (hsl u hu) ht
    exact ⟨hnext'.trans hnext, hpt⟩

/-- Outside COPY `current` that shows `next` equals it: neither has a byte outside the frame (20_memory.md rule R71). -/
theorem current_eq_next_of_showsNext {s : State} (h : s.Inv) (hs : showsNext s) (hc : s.st ≠ .copy) :
    s.current = s.next := by
  obtain ⟨-, hread⟩ := hs
  refine Memory.eq_of_read_eq h.current_canonical h.next_canonical fun a => ?_
  rcases Nat.lt_or_ge a s.cfg.N with ha | ha
  · exact hread a ha fun hst => absurd hst hc
  · rw [Memory.read_above h.current_in_frame ha, Memory.read_above h.next_in_frame ha]

/-- Settles O56: the publish stays under way, and where nothing is waiting, in flight, pending or being copied that means
that `current` shows it. -/
theorem publishedFrameIsShown : Obligations.PublishedFrameIsShown := by
  intro s t l h hd hl hs ht hnone
  obtain ⟨hdirty, hack, hpend, hst⟩ := hnone
  obtain ⟨hnext, hp⟩ := feed_publishUnderWay h (.inl hd) hl hs ht
  have hshow : showsNext t := by simpa [publishUnderWay, hdirty, hack, hpend] using hp
  exact (current_eq_next_of_showsNext (h.feed_inv ht) hshow hst).trans hnext

end Sys2Proof.Machine
end

section
/-! SUPPORT. The obligations of 30_encoding.md: the decoder and the encoder are inverses (rules R101 to R106, R109 and
R113) and follow the opcode map (rule R107), a word with a reserved operand bit set is rejected (rule R108), the
assembler (rules R116 to R118) and the colour word (rule R111). -/

namespace Sys2Proof

/-! ## Words cut into fields (rules R100 and R106) -/

section
variable {m n : Nat}

theorem extract_append_extract (w : BitVec (m + n)) : w.extractLsb' n m ++ w.extractLsb' 0 n = w := by
  rw [BitVec.extractLsb'_append_extractLsb'_eq_extractLsb' (Nat.zero_add n).symm, BitVec.extractLsb'_eq_self]

/-- A word is a pattern above its own low bits exactly when it matches the pattern in its high bits. -/
theorem append_extract_eq_iff (k : BitVec m) (w : BitVec (m + n)) :
    k ++ w.extractLsb' 0 n = w ↔ w &&& (BitVec.allOnes m ++ 0#n) = k ++ 0#n := by
  obtain ⟨hi, lo, rfl⟩ : ∃ (hi : BitVec m) (lo : BitVec n), w = hi ++ lo :=
    ⟨_, _, (extract_append_extract w).symm⟩
  rw [Laws.RowMatch.and_mask, BitVec.extractLsb'_append_eq_right, BitVec.append_left_inj, BitVec.append_left_inj,
    eq_comm]

/-- The opcode of a word that is an opcode, reserved bits and an operand. -/
theorem extract_opcode (op : BitVec 4) (r : BitVec m) (x : BitVec n) :
    (op ++ r ++ x).extractLsb' (m + n) 4 = op := by
  rw [BitVec.extractLsb'_append_eq_of_le (Nat.le_add_left n m), Nat.add_sub_cancel,
    BitVec.extractLsb'_append_eq_left]

/-- Under opcode k the reserved bits are 0 exactly when the word is k, zeros and its own operand. -/
theorem reserved_eq_zero_iff {k : BitVec 4} {w : BitVec (4 + m + n)} (hk : w.extractLsb' (m + n) 4 = k) :
    w.extractLsb' n m = 0 ↔ k ++ 0#m ++ w.extractLsb' 0 n = w := by
  have hhi : w.extractLsb' n (4 + m) = k ++ w.extractLsb' n m := by
    rw [← hk, Nat.add_comm m n, BitVec.extractLsb'_append_extractLsb'_eq_extractLsb' rfl]
  have hw : k ++ w.extractLsb' n m ++ w.extractLsb' 0 n = w := hhi ▸ extract_append_extract w
  calc w.extractLsb' n m = 0#m
    _ ↔ k ++ 0#m ++ w.extractLsb' 0 n = k ++ w.extractLsb' n m ++ w.extractLsb' 0 n := by
      rw [BitVec.append_left_inj, BitVec.append_right_inj, eq_comm]
    _ ↔ k ++ 0#m ++ w.extractLsb' 0 n = w := by rw [hw]

end

/-! ## The command that a row of the opcode map makes of a word (rule R107) -/

/-- The command of row n with the operand bits of w. -/
def Instr.ofRow (n : Fin 16) (w : Word) : Instr :=
  match n.val with
  | 0 => .nop
  | 1 => .writeByte (fieldVAL w)
  | 2 => .submit (fieldLEN w)
  | 3 => .setBucket (fieldBKT w)
  | 4 => .clearStatus
  | 5 => .reserved5 (fieldOperand w)
  | 6 => .reserved6 (fieldOperand w)
  | 7 => .reserved7 (fieldOperand w)
  | 8 => .reserved8 (fieldOperand w)
  | 9 => .reserved9 (fieldOperand w)
  | 10 => .reservedA (fieldOperand w)
  | 11 => .reservedB (fieldOperand w)
  | 12 => .reservedC (fieldOperand w)
  | 13 => .reservedD (fieldOperand w)
  | 14 => .reservedE (fieldOperand w)
  | _ => .reservedF (fieldOperand w)

@[simp] theorem Instr.rowIndex_ofRow (n : Fin 16) (w : Word) : (Instr.ofRow n w).rowIndex = n := by
  fin_cases n <;> rfl

/-- Reading back the operand of a command's own word gives the command. -/
@[simp] theorem Instr.ofRow_encode (i : Instr) : Instr.ofRow i.rowIndex (encode i) = i := by
  cases i with
  | nop => rfl
  | writeByte val => exact congrArg Instr.writeByte BitVec.extractLsb'_append_eq_right
  | submit len => exact congrArg Instr.submit BitVec.extractLsb'_append_eq_right
  | setBucket bkt => exact congrArg Instr.setBucket BitVec.extractLsb'_append_eq_right
  | clearStatus => rfl
  | _ operand => exact congrArg _ BitVec.extractLsb'_append_eq_right

/-- The opcode of a command's word is the number of its row. -/
@[simp] theorem fieldOP_encode (i : Instr) : fieldOP (encode i) = BitVec.ofNat 4 i.rowIndex.val := by
  cases i with
  | nop => rfl
  | writeByte val => exact extract_opcode 0x1#4 0#20 val
  | submit len => exact extract_opcode 0x2#4 0#4 len
  | setBucket bkt => exact extract_opcode 0x3#4 0#25 bkt
  | clearStatus => rfl
  | _ operand => exact BitVec.extractLsb'_append_eq_left

/-- A word is the word of row n's command with its own operand bits exactly when it is in row n of the opcode map. -/
theorem encode_ofRow_eq_iff (n : Fin 16) (w : Word) :
    encode (.ofRow n w) = w ↔ w &&& (opcodeTable[n]).mask = (opcodeTable[n]).pattern := by
  obtain ⟨i, rfl⟩ : ∃ i : Instr, i.rowIndex = n := ⟨.ofRow n w, Instr.rowIndex_ofRow n w⟩
  cases i with
  | nop =>
    change 0#32 = w ↔ w &&& BitVec.allOnes 32 = 0#32
    rw [BitVec.and_allOnes, eq_comm]
  | writeByte => exact append_extract_eq_iff (n := 8) (0x1#4 ++ 0#20) w
  | submit => exact append_extract_eq_iff (n := 24) (0x2#4 ++ 0#4) w
  | setBucket => exact append_extract_eq_iff (n := 3) (0x3#4 ++ 0#25) w
  | clearStatus =>
    change 0x40000000#32 = w ↔ w &&& BitVec.allOnes 32 = 0x40000000#32
    rw [BitVec.and_allOnes, eq_comm]
  | _ => exact append_extract_eq_iff (n := 28) _ w

/-! ## The decoder (rules R108 and R113) -/

/-- A row with reserved bits: its command where they are 0, that is, where the command's word is the whole word. -/
theorem reject_or_ok_eq {m : Nat} {r : BitVec m} {w : Word} {i : Instr} (h : r = 0 ↔ encode i = w) :
    (if r ≠ 0 then .error .badArg else .ok i : Except Reject Instr) =
      if encode i = w then .ok i else .error .badArg := by
  rw [ite_not]
  exact if_congr h rfl rfl

/-- The decoder, said once: the command of the row that OP numbers if its word is the whole word, and BADARG if not. -/
theorem decode_eq {n : Fin 16} {w : Word} (h : fieldOP w = BitVec.ofNat 4 n.val) :
    decode w = if encode (.ofRow n w) = w then .ok (.ofRow n w) else .error .badArg := by
  have hop : BitVec.ofNat 4 n.val ++ fieldOperand w = w := h ▸ extract_append_extract (m := 4) (n := 28) w
  have hzero : fieldOperand w = 0 ↔ BitVec.ofNat 4 n.val ++ 0#28 = w := by
    rw [eq_comm, ← BitVec.append_right_inj (BitVec.ofNat 4 n.val), hop]
    rfl
  obtain ⟨i, rfl⟩ : ∃ i : Instr, i.rowIndex = n := ⟨.ofRow n w, Instr.rowIndex_ofRow n w⟩
  unfold decode
  rw [h]
  cases i with
  | nop => exact reject_or_ok_eq hzero
  | writeByte => exact reject_or_ok_eq (reserved_eq_zero_iff (m := 20) (n := 8) h)
  | submit => exact reject_or_ok_eq (reserved_eq_zero_iff (m := 4) (n := 24) h)
  | setBucket => exact reject_or_ok_eq (reserved_eq_zero_iff (m := 25) (n := 3) h)
  | clearStatus => exact reject_or_ok_eq hzero
  | _ => exact (if_pos hop).symm

/-- The word of i has the opcode of i's row, and under it the operand of i. -/
@[simp] theorem decode_encode (i : Instr) : decode (encode i) = .ok i := by
  rw [decode_eq (fieldOP_encode i), Instr.ofRow_encode, if_pos rfl]

/-- The decoder answers a command only for the command's own word. -/
theorem encode_of_decode {w : Word} {i : Instr} (h : decode w = .ok i) : encode i = w := by
  have hop : fieldOP w = BitVec.ofNat 4 (fieldOP w).toFin.val :=
    ((BitVec.ofNat_toNat 4 (fieldOP w)).trans (BitVec.setWidth_eq _)).symm
  rw [decode_eq hop] at h
  split at h
  case isTrue hw =>
    cases h
    exact hw
  case isFalse => cases h

/-- A bit that is set under the row's mask and outside OP is a reserved bit, where every row's pattern is 0. -/
theorem decode_of_reserved_bit {n : Fin 16} {w : Word} (hop : fieldOP w = BitVec.ofNat 4 n.val)
    (hbit : w &&& (opcodeTable[n]).mask &&& 0x0FFFFFFF ≠ 0) : decode w = .error .badArg := by
  have hpattern : ∀ n : Fin 16, (opcodeTable[n]).pattern &&& 0x0FFFFFFF = 0 := by decide
  rw [decode_eq hop, if_neg fun h => hbit ?_]
  rw [(encode_ofRow_eq_iff n w).1 h, hpattern]

/-- Settles O2: a command's row and operand are read back from its word. -/
theorem decodeInvertsEncode : Obligations.DecodeInvertsEncode := decode_encode

/-- Settles O3: a command is answered only for its own word. -/
theorem encodeInvertsDecode : Obligations.EncodeInvertsDecode := fun _ _ => encode_of_decode

/-- Settles O4: a word in row n is the word of that row's command, which decodes to it. -/
theorem decodingFollowsTheOpcodeMap : Obligations.DecodingFollowsTheOpcodeMap := by
  intro w n
  rw [← encode_ofRow_eq_iff]
  constructor
  · intro hw
    exact ⟨.ofRow n w, (congrArg decode hw).symm.trans (decode_encode _), Instr.rowIndex_ofRow n w⟩
  · rintro ⟨i, hi, rfl⟩
    rw [← encode_of_decode hi, Instr.ofRow_encode]

/-- Settles O20: the word is rejected, and a rejected word only raises ERR_ARG. -/
theorem overwideWordsRaiseErrArg : Obligations.OverwideWordsRaiseErrArg := by
  intro w n s hop hbit
  have hreject : decode w = .error .badArg := decode_of_reserved_bit (n := n.castLE (by decide)) hop hbit
  unfold Machine.commandWord
  rw [hreject]
  rfl

/-- Settles O1 by running the decoder on the fifteen words. -/
theorem sampleWordsDecodeAsEncoded : Obligations.SampleWordsDecodeAsEncoded := by
  unfold Obligations.SampleWordsDecodeAsEncoded
  decide

/-! ## The assembler (rules R116 to R118) -/

/-- Or-ing an operand in range into a word with zeros below is putting it there as a field. -/
theorem append_zero_or_ofNat {m n v : Nat} (k : BitVec m) (hv : v < 2 ^ n) :
    (k ++ 0#n) ||| BitVec.ofNat (m + n) v = k ++ BitVec.ofNat n v := by
  have hv' : v < 2 ^ (m + n) := hv.trans_le (Nat.pow_le_pow_right Nat.two_pos (Nat.le_add_left n m))
  apply BitVec.eq_of_toNat_eq
  simp [BitVec.toNat_append, Nat.mod_eq_of_lt hv, Nat.mod_eq_of_lt hv']

theorem or_eq_encode_writeByte {v : Nat} (h : v ≤ 255) :
    0x10000000 ||| BitVec.ofNat 32 v = encode (.writeByte (BitVec.ofNat 8 v)) :=
  append_zero_or_ofNat (n := 8) (0x1#4 ++ 0#20) (Nat.lt_succ_of_le h)

theorem or_eq_encode_submit {v : Nat} (h : v ≤ 0xFFFFFF) :
    0x20000000 ||| BitVec.ofNat 32 v = encode (.submit (BitVec.ofNat 24 v)) :=
  append_zero_or_ofNat (n := 24) (0x2#4 ++ 0#4) (Nat.lt_succ_of_le h)

theorem or_eq_encode_setBucket {v : Nat} (h : v ≤ 7) :
    0x30000000 ||| BitVec.ofNat 32 v = encode (.setBucket (BitVec.ofNat 3 v)) :=
  append_zero_or_ofNat (n := 3) (0x3#4 ++ 0#25) (Nat.lt_succ_of_le h)

/-- A line assembles exactly when its check p holds, to words that need only be known under p. -/
theorem assemble_eq_ite {n : Nat} {line : AsmLine} {ws : List Word} {p : Prop} [Decidable p]
    (hp : line.wf n = true ↔ p) (hws : p → line.words = ws) : assemble n line = if p then some ws else none := by
  unfold assemble
  by_cases h : p
  · rw [if_pos (hp.2 h), if_pos h, hws h]
  · rw [if_neg (mt hp.1 h), if_neg h]

theorem AsmLine.wf_frame_iff {n : Nat} {bytes : List Nat} :
    (AsmLine.frame bytes).wf n = true ↔ bytes.length = n ∧ ∀ b ∈ bytes, b ≤ 255 := by
  simp [AsmLine.wf]

/-- A frame with its N bytes in range is the header and the bytes (rule R117). N fits the header's LEN (rule R106). -/
theorem words_frame {c : Config} {bytes : List Nat} (hlen : bytes.length = c.N) (hbytes : ∀ b ∈ bytes, b ≤ 255) :
    (AsmLine.frame bytes).words =
      encode (.submit (BitVec.ofNat 24 c.N)) :: bytes.map fun b => encode (.writeByte (BitVec.ofNat 8 b)) := by
  have hN : c.N ≤ 0xFFFFFF := by have := c.N_lt; omega
  rw [AsmLine.words, hlen, or_eq_encode_submit hN, List.map_congr_left fun b hb => or_eq_encode_writeByte (hbytes b hb)]

/-- Settles O5, line by line: the check of a line is the range of its operands, and its words are its commands'. -/
theorem linesAssembleToTheirCommands : Obligations.LinesAssembleToTheirCommands := by
  intro c bytes v count
  have hframe := assemble_eq_ite (n := c.N) (line := .frame bytes) AsmLine.wf_frame_iff fun h => words_frame h.1 h.2
  refine ⟨rfl,
    assemble_eq_ite decide_eq_true_iff fun h => congrArg (fun w => [w]) (or_eq_encode_writeByte h),
    assemble_eq_ite decide_eq_true_iff fun h => congrArg (fun w => [w]) (or_eq_encode_submit h),
    assemble_eq_ite decide_eq_true_iff fun h => congrArg (fun w => [w]) (or_eq_encode_setBucket h),
    rfl,
    assemble_eq_ite decide_eq_true_iff fun _ => rfl,
    fun h => hframe.trans (if_pos h),
    fun h => hframe.trans (if_neg fun ⟨hlen, hbytes⟩ => ?_),
    assemble_eq_ite decide_eq_true_iff fun h => congrArg (List.replicate count) (or_eq_encode_writeByte h)⟩
  rcases h with hne | ⟨b, hb, hgt⟩
  · exact hne hlen
  · exact (hbytes b hb).not_gt hgt

end Sys2Proof

namespace Sys2Proof.Machine

/-! ## The colour word (rule R111, 42_scan.md rule R178) -/

theorem pixelBit_eq (c : Config) (m : Memory) (p : Plane) (y x : Nat) (ch : Channel) : pixelBit c m p y x ch =
    (gamma c ch (m.read (3 * (y * c.W + x) + ch.index.val))).getLsbD p.val := by
  rw [pixelBit, gammaBit, BitVec.getLsbD_ushiftRight, Nat.add_zero, frameOffset]

/-- A last line is one more bit at the low end. -/
theorem append_ofBool {n : Nat} (x : BitVec n) (b : Bool) : x ++ BitVec.ofBool b = x.concat b := rfl

/-- Settles O39: the lines from low to high are the concatenation from its end, and each is its pixel's gamma bit. -/
theorem colourWordTakesSixGammaBits : Obligations.ColourWordTakesSixGammaBits := by
  intro c m p r x
  simp only [colourWord, append_ofBool, BitVec.getLsbD_concat_zero, BitVec.getLsbD_concat_succ, BitVec.getLsbD_ofBool]
  exact ⟨pixelBit_eq .., pixelBit_eq .., pixelBit_eq .., pixelBit_eq .., pixelBit_eq .., pixelBit_eq ..⟩

end Sys2Proof.Machine
end

section
/-! SUPPORT. The obligations of 40_frame_store.md: the request synchronisers (rules R130 and R131), the swap (rule R133),
COPY and INIT (rules R134 and R135), what each domain's step leaves alone (rules R136, R139 and R140) and the reset
contents of `next` (rule R137). -/

namespace Sys2Proof.Machine

/-! ## The state after a DOM_R step, register by register (rule R140) -/

/-- Where the render FSM is: its state, the byte index and the scan position (10_state.md rules R40 to R42). -/
structure Place where
  st : RenderState
  k : BitVec 20
  p : Plane
  r : BitVec 5
  j : Nat

/-- Where a DOM_R step leads (rules R133 to R135, 42_scan.md rule R176). -/
def nextPlace (s : State) : Place :=
  match s.st with
  | .init => if kAtEnd s then ⟨.idle, 0, s.p, s.r, s.j⟩ else ⟨.init, s.k + 1, s.p, s.r, s.j⟩
  | .idle => if swapTaken s then ⟨.copy, 0, s.p, s.r, s.j⟩ else ⟨.scan, s.k, 0, 0, 0⟩
  | .copy => if kAtEnd s then ⟨.scan, 0, 0, 0, 0⟩ else ⟨.copy, s.k + 1, s.p, s.r, s.j⟩
  | .scan =>
    if s.j + 1 < slotLength s.cfg s.pass_bucket s.p then ⟨.scan, s.k, s.p, s.r, s.j + 1⟩
    else if s.r.toNat + 1 < s.cfg.R then ⟨.scan, s.k, s.p, s.r + 1, 0⟩
    else if s.p < 10 then ⟨.scan, s.k, s.p + 1, 0, 0⟩
    else ⟨.idle, s.k, 0, 0, 0⟩

/-- What a DOM_R step leaves in `current` (rule R136). -/
def nextCurrent (s : State) : Memory :=
  match s.st with
  | .init => s.current.write s.k.toNat 0
  | .copy => s.current.write s.k.toNat (s.next.read s.k.toNat)
  | .idle => s.current
  | .scan => s.current

/-- The state after a DOM_R step. Only IDLE consumes a pending publish and latches the bucket (rule R133, 42_scan.md rule
R171), and only SCAN moves ADDR (42_scan.md rule R180). -/
def afterRender (s : State) : State :=
  { (handshakeParts (decide (s.st ≠ .idle) && swapTaken s) s).setPlace (nextPlace s).st (nextPlace s).k (nextPlace s).p
      (nextPlace s).r (nextPlace s).j
      (if s.st = .scan ∧ s.j + 1 = shiftLength s.cfg then s.r else s.addr_reg)
      (if s.st = .idle then s.bucket_r else s.pass_bucket) with
    current := nextCurrent s }

/-- A publish that arrives joins the pending one (rule R131). -/
theorem pend_r_after (s : State) : (if pubArrives s then true else s.pend_r) = swapTaken s := by
  unfold swapTaken
  cases pubArrives s <;> simp

/-- The SCAN step goes to `nextPlace` (42_scan.md rule R176). -/
theorem scanStep_handshakeParts {s : State} (hs : s.st = .scan) (pend : Bool) :
    scanStep s (handshakeParts pend s) =
      (handshakeParts pend s).setPlace (nextPlace s).st (nextPlace s).k (nextPlace s).p (nextPlace s).r (nextPlace s).j
        (if s.j + 1 = shiftLength s.cfg then s.r else s.addr_reg) s.pass_bucket := by
  unfold scanStep nextPlace
  simp only [hs]
  by_cases h1 : s.j + 1 < slotLength s.cfg s.pass_bucket s.p
  · simp only [if_pos h1]; rw [← hs]; rfl
  · by_cases h2 : s.r.toNat + 1 < s.cfg.R
    · simp only [if_neg h1, if_pos h2]; rw [← hs]; rfl
    · by_cases h3 : s.p < 10
      · simp only [if_neg h1, if_neg h2, if_pos h3]; rw [← hs]; rfl
      · simp only [if_neg h1, if_neg h2, if_neg h3]; rfl

/-- A DOM_R step, said once: INIT and COPY need their byte to be in the frame, and the rest is `afterRender`. -/
theorem renderStep_eq_next {s t : State} : renderStep s = .next t ↔
    (s.st = .init ∨ s.st = .copy → s.k.toNat < s.cfg.N) ∧ t = afterRender s := by
  unfold renderStep afterRender
  rw [pendCapture_renderParts_eq_handshakeParts, pend_r_after, idleStep_eq]
  cases hs : s.st with
  | init =>
    simp only [initStep_eq_next (handshakeParts_cfg _ s), nextPlace, nextCurrent, hs]
    cases kAtEnd s <;> simp [State.setPlace, handshakeParts, hs]
  | idle =>
    simp only [nextPlace, nextCurrent, hs, Host.Outcome.next.injEq, @eq_comm _ _ t]
    cases swapTaken s <;> simp [State.setPlace, handshakeParts]
  | copy =>
    simp only [copyStep_eq_next (handshakeParts_cfg _ s), nextPlace, nextCurrent, hs]
    cases kAtEnd s <;> simp [State.setPlace, handshakeParts, hs]
  | scan =>
    simp only [scanStep_handshakeParts hs, nextCurrent, hs, Host.Outcome.next.injEq, @eq_comm _ _ t]
    simp [State.setPlace, handshakeParts]

theorem event_clk_r_eq_next {s t : State} (hr : runsR s = true) : event .clk_r s = .next t ↔
    (s.st = .init ∨ s.st = .copy → s.k.toNat < s.cfg.N) ∧ t = afterRender s := by
  rw [event_clk_r hr, renderStep_eq_next]

/-! ## The DOM_R step (rules R130, R131, R133 to R136 and R140) -/

theorem bktArrives_iff (s : State) : bktArrives s = true ↔ s.breq_s2 ≠ s.bkt_ack := bne_iff_ne

theorem pubArrives_iff (s : State) : pubArrives s = true ↔ s.preq_s2 ≠ s.pub_ack := bne_iff_ne

theorem swapTaken_iff (s : State) : swapTaken s = true ↔ s.pend_r = true ∨ s.preq_s2 ≠ s.pub_ack := by
  rw [swapTaken, Bool.or_eq_true, pubArrives_iff]

theorem kAtEnd_iff (s : State) : kAtEnd s = true ↔ s.k.toNat = s.cfg.N - 1 := decide_eq_true_iff

@[simp] theorem afterRender_st (s : State) : (afterRender s).st = (nextPlace s).st := rfl
@[simp] theorem afterRender_k (s : State) : (afterRender s).k = (nextPlace s).k := rfl
@[simp] theorem afterRender_p (s : State) : (afterRender s).p = (nextPlace s).p := rfl
@[simp] theorem afterRender_r (s : State) : (afterRender s).r = (nextPlace s).r := rfl
@[simp] theorem afterRender_j (s : State) : (afterRender s).j = (nextPlace s).j := rfl

theorem afterRender_pend_r (s : State) :
    (afterRender s).pend_r = (decide (s.st ≠ .idle) && swapTaken s) := rfl

theorem afterRender_pass_bucket {s : State} (hs : s.st ≠ .idle) : (afterRender s).pass_bucket = s.pass_bucket :=
  if_neg hs

theorem afterRender_addr_reg {s : State} (hs : s.st ≠ .scan) : (afterRender s).addr_reg = s.addr_reg :=
  if_neg fun ⟨h, _⟩ => hs h

theorem nextCurrent_eq_current {s : State} (hs : s.st ≠ .init ∧ s.st ≠ .copy) : nextCurrent s = s.current := by
  obtain ⟨hi, hc⟩ := hs
  unfold nextCurrent
  split
  · contradiction
  · contradiction
  · rfl
  · rfl

theorem nextPlace_init {s : State} (hs : s.st = .init) : nextPlace s =
    if kAtEnd s then ⟨.idle, 0, s.p, s.r, s.j⟩ else ⟨.init, s.k + 1, s.p, s.r, s.j⟩ := by
  unfold nextPlace; rw [hs]

theorem nextPlace_idle {s : State} (hs : s.st = .idle) : nextPlace s =
    if swapTaken s then ⟨.copy, 0, s.p, s.r, s.j⟩ else ⟨.scan, s.k, 0, 0, 0⟩ := by
  unfold nextPlace; rw [hs]

theorem nextPlace_copy {s : State} (hs : s.st = .copy) : nextPlace s =
    if kAtEnd s then ⟨.scan, 0, 0, 0, 0⟩ else ⟨.copy, s.k + 1, s.p, s.r, s.j⟩ := by
  unfold nextPlace; rw [hs]

/-- COPY is entered from IDLE only, and only for a publish (rules R133 and R136). -/
theorem swapTaken_of_nextPlace_copy {s : State} (h : (nextPlace s).st = .copy) (hs : s.st ≠ .copy) :
    s.st = .idle ∧ swapTaken s = true := by
  unfold nextPlace at h
  split at h
  case h_1 => split at h <;> cases h
  case h_2 hst =>
    split at h
    · exact ⟨hst, ‹_›⟩
    · cases h
  case h_3 hst => exact absurd hst hs
  case h_4 =>
    repeat' split at h
    all_goals cases h

/-- Settles O30: the handshakes' part of the step is the same in every state of the FSM, but for the pending mark. -/
theorem renderStepTakesInRequests : Obligations.RenderStepTakesInRequests := by
  intro s t hr ht
  obtain ⟨-, rfl⟩ := (event_clk_r_eq_next hr).1 ht
  simp only [← bktArrives_iff, ← pubArrives_iff]
  refine ⟨rfl, rfl, rfl, rfl, rfl, (bkt_ack_after s).symm, fun hs => ⟨?_, (pub_ack_after s).symm⟩⟩
  rw [pend_r_after, afterRender_pend_r, decide_eq_true hs, Bool.true_and]

/-- Settles O31: the place that IDLE leads to is decided by `swapTaken`. -/
theorem idleStepDecidesTheSwap : Obligations.IdleStepDecidesTheSwap := by
  refine ⟨fun s hr hs => ⟨afterRender s, (event_clk_r_eq_next hr).2 ⟨by simp [hs], rfl⟩, ?_, rfl, if_pos hs, ?_⟩,
    fun s t hr hs ht => ?_⟩
  · simp [afterRender_pend_r, hs]
  · simp only [← swapTaken_iff]
    by_cases h : swapTaken s = true <;> simp [nextPlace_idle hs, h]
  · obtain ⟨-, rfl⟩ := (event_clk_r_eq_next hr).1 ht
    exact afterRender_pass_bucket hs

/-- In COPY and INIT the byte at k is written (rules R134 and R135). -/
theorem nextCurrent_eq_write {s : State} (hs : s.st = .copy ∨ s.st = .init) : nextCurrent s =
    s.current.write s.k.toNat (if s.st = .copy then s.next.read s.k.toNat else 0) := by
  unfold nextCurrent
  rcases hs with hs | hs <;> simp only [hs] <;> rfl

/-- Settles O32: one byte is written, and the place follows k. -/
theorem copyAndInitWriteOneByte : Obligations.CopyAndInitWriteOneByte := by
  intro s hw hr hk hs
  have hcur : (afterRender s).current = _ := nextCurrent_eq_write hs
  refine ⟨afterRender s, (event_clk_r_eq_next hr).2 ⟨fun _ => hk, rfl⟩, rfl, ?_, fun a ha => ?_, ?_⟩
  · rw [hcur, Memory.read_write_same hw]
  · rw [hcur, Memory.read_write_other ha]
  · simp only [← kAtEnd_iff]
    rcases hs with hs | hs
    · by_cases h : kAtEnd s = true <;> simp [nextPlace_copy hs, hs, h]
    · by_cases h : kAtEnd s = true <;> simp [nextPlace_init hs, hs, h]

/-- Settles O34: the registers that `afterRender` does not name. -/
theorem renderStepFrame : Obligations.RenderStepFrame := by
  intro s t hr ht
  obtain ⟨-, rfl⟩ := (event_clk_r_eq_next hr).1 ht
  exact ⟨rfl, rfl, fun hs => nextCurrent_eq_current (by rcases hs with hs | hs <;> simp [hs]), afterRender_pass_bucket,
    afterRender_addr_reg⟩

/-! ## Neither domain waits for the other (rule R139) -/

/-- Settles O37: a clk_i edge does not write the registers that the pins are made of, and `afterRender` gives the scan
registers from the render registers. -/
theorem neitherDomainWaitsForTheOther : Obligations.NeitherDomainWaitsForTheOther := by
  refine ⟨fun s v w h => ?_, fun s s' t t' hr hr' heq ht ht' => ?_⟩
  · obtain ⟨t, ht⟩ := exists_edgeI_eq_next v w h.cursor_in_frame
    refine ⟨t, ht, ?_⟩
    rw [edgeI_frame ht]
    exact ⟨rfl, rfl, rfl, rfl, rfl, rfl, rfl, rfl, rfl, rfl, rfl, rfl⟩
  · obtain ⟨-, rfl⟩ := (event_clk_r_eq_next hr).1 ht
    obtain ⟨-, rfl⟩ := (event_clk_r_eq_next hr').1 ht'
    simp only [Prod.mk.injEq] at heq
    obtain ⟨hcfg, hst, hk, hp, hrow, hj, haddr, hpass, hbucket, hpend, hreq, hack⟩ := heq
    have htaken : swapTaken s = swapTaken s' := by simp only [swapTaken, pubArrives, hpend, hreq, hack]
    have hplace : nextPlace s = nextPlace s' := by
      unfold nextPlace kAtEnd
      rw [htaken, hcfg, hst, hk, hp, hrow, hj, hpass]
    simp only [afterRender, State.setPlace, handshakeParts, hplace, htaken, hcfg, hst, hrow, hj, haddr, hpass, hbucket,
      hreq]

/-! ## `current` changes only in INIT and COPY (rule R136) -/

/-- Only a DOM_R step in INIT or COPY changes `current`, and only one in IDLE enters COPY. -/
theorem event_current_and_copy {e : Input} {s t : State} (h : event e s = .next t) :
    (t.current ≠ s.current → e = .clk_r ∧ runsR s = true ∧ (s.st = .init ∨ s.st = .copy)) ∧
    (t.st = .copy → s.st ≠ .copy → e = .clk_r ∧ s.st = .idle) := by
  rcases event_cases h with ⟨v, w, -, h⟩ | ⟨rfl, h⟩ | ⟨-, rfl⟩ | ⟨-, rfl⟩
  · rw [edgeI_frame h]
    exact ⟨fun hne => absurd rfl hne, fun hc hne => absurd hc hne⟩
  · rcases edgeR_cases h with ⟨-, rfl⟩ | ⟨hr, h⟩
    · exact ⟨fun hne => absurd rfl hne, fun hc hne => absurd hc hne⟩
    · obtain ⟨-, rfl⟩ := renderStep_eq_next.1 h
      refine ⟨fun hne => ⟨rfl, hr, ?_⟩, fun hc hne => ⟨rfl, ?_⟩⟩
      · by_contra hs
        exact hne (nextCurrent_eq_current (not_or.1 hs))
      · exact (swapTaken_of_nextPlace_copy hc hne).1
  · exact ⟨fun hne => absurd rfl hne, fun hc hne => absurd hc hne⟩
  · exact ⟨fun hne => absurd rfl hne, fun hc => by cases hc⟩

/-- Settles O53: a step is an event, and taking the input changes none of the registers spoken of. -/
theorem currentChangesOnlyInInitAndCopy : Obligations.CurrentChangesOnlyInInitAndCopy := by
  intro s t ht
  simpa [runsR] using event_current_and_copy ht

/-! ## The reset contents of `next` (rule R137) -/

/-- The state with m as its `next`. -/
def State.setNext (m : Memory) (s : State) : State := { s with next := m }

/-- m agrees with `next` in every byte that has been written since reset: in the whole frame, or, with no publish made
yet, below the cursor. -/
def agreesOnWritten (m : Memory) (s : State) : Prop :=
  (∀ a, a < s.cfg.N → s.next.read a = m.read a) ∨
    (neverPublished s ∧ ∀ a, a < s.cursor.toNat → s.next.read a = m.read a)

theorem differOnlyInUnwritten_iff {s t : State} :
    differOnlyInUnwritten s t ↔ t = s.setNext t.next ∧ agreesOnWritten t.next s := Iff.rfl

theorem neverPublished_iff {s : State} : neverPublished s ↔ s.pub_dirty = false ∧ s.pub_req = false ∧
    s.preq_s1 = false ∧ s.preq_s2 = false ∧ s.pub_ack = false ∧ s.pack_s1 = false ∧ s.pack_s2 = false ∧
    s.pend_r = false ∧ s.st ≠ .copy := by
  simp [neverPublished, publishRing, and_assoc]

theorem neverPublished_assertReset (s : State) : neverPublished (assertReset s) := ⟨rfl, rfl, rfl, nofun⟩

/-- With no publish waiting, none is launched (43_commands.md rule R220). -/
theorem neverPublished_ingestParts {s : State} (h : neverPublished s) : neverPublished (ingestParts s) := by
  obtain ⟨hdirty, hreq, h1, h2, hack, ha1, -, hpend, hst⟩ := neverPublished_iff.1 h
  have hl : pubLaunches s = false := by rw [pubLaunches, hdirty, Bool.false_and]
  exact neverPublished_iff.2 (by simp [hl, hdirty, hreq, h1, h2, hack, ha1, hpend, hst])

/-- With no publish in flight or pending, IDLE takes no swap (rule R133). -/
theorem neverPublished_afterRender {s : State} (h : neverPublished s) : neverPublished (afterRender s) := by
  obtain ⟨hdirty, hreq, h1, h2, hack, ha1, ha2, hpend, hst⟩ := neverPublished_iff.1 h
  have htaken : swapTaken s = false := by simp [swapTaken, pubArrives, hpend, h2, hack]
  have hpend' : (afterRender s).pend_r = false := by rw [afterRender_pend_r, htaken, Bool.and_false]
  have hst' : (afterRender s).st ≠ .copy := fun hc =>
    ne_true_of_eq_false htaken (swapTaken_of_nextPlace_copy hc hst).2
  exact neverPublished_iff.2 ⟨hdirty, hreq, hreq, h1, h2, ha1, ha2, hpend', hst'⟩

/-- Only COPY reads `next` in a DOM_R step, and only the byte at k (rule R134). -/
theorem afterRender_setNext {m : Memory} {s : State} (h : s.st = .copy → m.read s.k.toNat = s.next.read s.k.toNat) :
    afterRender (s.setNext m) = (afterRender s).setNext m := by
  have hcur : nextCurrent (s.setNext m) = nextCurrent s := by
    unfold nextCurrent
    cases hs : s.st with
    | copy => simp only [State.setNext, hs, h hs]
    | init | idle | scan => simp only [State.setNext, hs]
  unfold afterRender
  rw [hcur]
  rfl

/-- A step that leaves `next` alone keeps the agreement, if it makes no publish and the cursor does not go on. -/
theorem agreesOnWritten.of_next_eq {m : Memory} {s t : State} (h : agreesOnWritten m s) (hcfg : t.cfg = s.cfg)
    (hnext : t.next = s.next) (hnew : neverPublished s → neverPublished t ∧ t.cursor.toNat ≤ s.cursor.toNat) :
    agreesOnWritten m t := by
  unfold agreesOnWritten
  rw [hcfg, hnext]
  rcases h with h | ⟨hn, h⟩
  · exact .inl h
  · obtain ⟨hn', hle⟩ := hnew hn
    exact .inr ⟨hn', fun a ha => h a (ha.trans_le hle)⟩

/-- Memories that agree at an offset other than the one written still do, and they agree at the one written. -/
theorem Memory.read_write_congr {m m' : Memory} (hm : m.wf = true) (hm' : m'.wf = true) {a b : Nat} (v : Byte)
    (h : b ≠ a → m.read b = m'.read b) : (m.write a v).read b = (m'.write a v).read b := by
  by_cases hb : b = a
  · rw [hb, Memory.read_write_same hm, Memory.read_write_same hm']
  · rw [Memory.read_write_other hb, Memory.read_write_other hb, h hb]

/-- A store writes the byte at the cursor in both. The one at N − 1 leaves the whole frame written (43_commands.md rule
R213). -/
theorem storeByte_agreesOnWritten {m : Memory} {val : Byte} {s t : State} (h : agreesOnWritten m s)
    (hw : s.next.wf = true) (hm : m.wf = true) (ht : storeByte val s = .next t) :
    storeByte val (s.setNext m) = .next (t.setNext (m.write s.cursor.toNat val)) ∧
      agreesOnWritten (m.write s.cursor.toNat val) t := by
  obtain ⟨hc, rfl⟩ := storeByte_eq_next.1 ht
  refine ⟨storeByte_eq_next.2 ⟨hc, rfl⟩, ?_⟩
  rcases h with h | ⟨hn, h⟩
  · exact .inl fun a ha => Memory.read_write_congr hw hm val fun _ => h a ha
  · by_cases hend : cursorAtEnd s = true
    · have hN : s.cursor.toNat = s.cfg.N - 1 := of_decide_eq_true hend
      refine .inl fun a ha => Memory.read_write_congr hw hm val fun hne => h a ?_
      have ha : a < s.cfg.N := ha
      omega
    · obtain ⟨hdirty, hrest⟩ := hn
      refine .inr ⟨⟨(if_neg hend).trans hdirty, hrest⟩, fun a ha =>
        Memory.read_write_congr hw hm val fun hne => h a ?_⟩
      have ha : a < (if cursorAtEnd s then 0 else s.cursor + 1).toNat := ha
      have hN := s.cfg.N_lt
      rw [if_neg hend, BitVec.toNat_add, show (1 : BitVec 20).toNat = 1 from rfl] at ha
      omega

/-- A reserved opcode raises ERR_CMD (43_commands.md rule R234). -/
theorem exec_of_reserved {i : Instr} (hi : 5 ≤ i.rowIndex.val) (s : State) : exec i s = .next (raise .cmd s) := by
  cases i with
  | nop | writeByte | submit | setBucket | clearStatus => simp [Instr.rowIndex] at hi
  | _ => rfl

/-- No command but a store depends on `next`, and none but a store makes a publish or moves the cursor on. -/
theorem exec_agreesOnWritten {m : Memory} {i : Instr} {s t : State} (h : agreesOnWritten m s)
    (hw : s.next.wf = true) (hm : m.wf = true) (ht : exec i s = .next t) :
    ∃ m', exec i (s.setNext m) = .next (t.setNext m') ∧ agreesOnWritten m' t := by
  rcases exec_cases ht with ⟨rfl, rfl⟩ | ⟨v, rfl, hd, rfl⟩ | ⟨v, rfl, hd, hs⟩ | ⟨n, rfl, hn, rfl⟩ | ⟨n, rfl, hn, rfl⟩ |
    ⟨b, rfl, rfl⟩ | ⟨rfl, rfl⟩ | ⟨hi, rfl⟩
  · exact ⟨m, rfl, h⟩
  · exact ⟨m, if_pos hd, h.of_next_eq rfl rfl fun hn => ⟨hn, le_rfl⟩⟩
  · obtain ⟨hs', h'⟩ := storeByte_agreesOnWritten h hw hm hs
    exact ⟨_, (if_neg (not_not.2 hd)).trans hs', h'⟩
  · exact ⟨m, if_pos (decide_eq_true hn), h.of_next_eq rfl rfl fun hn => ⟨hn, Nat.zero_le _⟩⟩
  · exact ⟨m, if_neg (ne_true_of_eq_false (decide_eq_false hn)), h.of_next_eq rfl rfl fun hn => ⟨hn, le_rfl⟩⟩
  · exact ⟨m, rfl, h.of_next_eq rfl rfl fun hn => ⟨hn, le_rfl⟩⟩
  · exact ⟨m, rfl, h.of_next_eq rfl rfl fun hn => ⟨hn, le_rfl⟩⟩
  · rw [exec_of_reserved hi]
    exact ⟨m, rfl, h.of_next_eq rfl rfl fun hn => ⟨hn, le_rfl⟩⟩

theorem commandWord_of_ok {w : Word} {i : Instr} (h : decode w = .ok i) (s : State) : commandWord w s = exec i s := by
  unfold commandWord; rw [h]

theorem commandWord_of_badArg {w : Word} (h : decode w = .error .badArg) (s : State) :
    commandWord w s = .next (raise .arg s) := by
  unfold commandWord; rw [h]; rfl

/-- Parts 1 and 2 of the DOM_I step read no byte of `next`, and launch nothing where no publish has been made. -/
theorem edgeI_agreesOnWritten {m : Memory} {v : Bool} {w : Word} {s t : State} (h : agreesOnWritten m s)
    (hw : s.next.wf = true) (hm : m.wf = true) (ht : edgeI v w s = .next t) :
    ∃ m', edgeI v w (s.setNext m) = .next (t.setNext m') ∧ agreesOnWritten m' t := by
  have hparts : agreesOnWritten m (ingestParts s) :=
    h.of_next_eq rfl rfl fun hn => ⟨neverPublished_ingestParts hn, le_rfl⟩
  rcases edgeI_cases ht with ⟨hr, rfl⟩ | ⟨hr, rfl, rfl⟩ | ⟨hr, rfl, hdec, rfl⟩ | ⟨hr, rfl, i, hdec, ht⟩
  · exact ⟨m, if_neg (ne_true_of_eq_false hr), h.of_next_eq rfl rfl fun hn => ⟨hn, le_rfl⟩⟩
  · exact ⟨m, if_pos hr, hparts⟩
  · exact ⟨m, (if_pos hr).trans (commandWord_of_badArg hdec _), hparts.of_next_eq rfl rfl fun hn => ⟨hn, le_rfl⟩⟩
  · obtain ⟨m', hexec, h'⟩ := exec_agreesOnWritten hparts hw hm ht
    exact ⟨m', (if_pos hr).trans ((commandWord_of_ok hdec _).trans hexec), h'⟩

/-- Where no publish has been made no COPY runs, and elsewhere the two memories are equal in the frame that COPY reads. -/
theorem renderStep_agreesOnWritten {m : Memory} {s t : State} (h : agreesOnWritten m s)
    (ht : renderStep s = .next t) : renderStep (s.setNext m) = .next (t.setNext m) ∧ agreesOnWritten m t := by
  obtain ⟨hk, rfl⟩ := renderStep_eq_next.1 ht
  have hread : s.st = .copy → m.read s.k.toNat = s.next.read s.k.toNat := by
    intro hs
    rcases h with h | ⟨⟨-, -, -, hst⟩, -⟩
    · exact (h _ (hk (.inr hs))).symm
    · exact absurd hs hst
  exact ⟨renderStep_eq_next.2 ⟨hk, (afterRender_setNext hread).symm⟩,
    h.of_next_eq rfl rfl fun hn => ⟨neverPublished_afterRender hn, le_rfl⟩⟩

/-- Every event does the same to both states, and keeps the agreement. -/
theorem event_agreesOnWritten {m : Memory} {e : Input} {s t : State} (h : agreesOnWritten m s)
    (hw : s.next.wf = true) (hm : m.wf = true) (ht : event e s = .next t) :
    ∃ m', event e (s.setNext m) = .next (t.setNext m') ∧ agreesOnWritten m' t := by
  rcases event_cases ht with ⟨v, w, rfl, ht⟩ | ⟨rfl, ht⟩ | ⟨rfl, rfl⟩ | ⟨rfl, rfl⟩
  · exact edgeI_agreesOnWritten h hw hm ht
  · rcases edgeR_cases ht with ⟨hr, rfl⟩ | ⟨hr, ht⟩
    · exact ⟨m, if_neg (ne_true_of_eq_false hr), h.of_next_eq rfl rfl fun hn => ⟨hn, le_rfl⟩⟩
    · obtain ⟨hstep, h'⟩ := renderStep_agreesOnWritten h ht
      exact ⟨m, (if_pos hr).trans hstep, h'⟩
  · exact ⟨m, rfl, h.of_next_eq rfl rfl fun hn => ⟨hn, le_rfl⟩⟩
  · exact ⟨m, rfl, h.of_next_eq rfl rfl fun _ => ⟨neverPublished_assertReset s, Nat.zero_le _⟩⟩

/-- By induction on the run. The invariant keeps both memories in canonical form. -/
theorem feed_agreesOnWritten {m : Memory} {l : List Input} {s t : State} (h : agreesOnWritten m s) (hi : s.Inv)
    (hi' : (s.setNext m).Inv) (ht : feed l s = .next t) :
    ∃ m', feed l (s.setNext m) = .next (t.setNext m') ∧ agreesOnWritten m' t := by
  induction l generalizing m s with
  | nil => exact ⟨m, Host.Outcome.next.inj ht ▸ ⟨rfl, h⟩⟩
  | cons e l ih =>
    obtain ⟨u, hu, ht⟩ := feed_cons_eq_next.1 ht
    obtain ⟨m', hu', h'⟩ := event_agreesOnWritten h hi.next_canonical hi'.next_canonical hu
    obtain ⟨m'', ht', h''⟩ := ih h' (hi.event_inv hu) (hi'.event_inv hu') ht
    exact ⟨m'', feed_cons_eq_next.2 ⟨_, hu', ht'⟩, h''⟩

/-- Settles O58: right after reset nothing is written, every run keeps the agreement, and neither the pins nor the status
word reads `next`. -/
theorem nextResetContentsUnobservable : Obligations.NextResetContentsUnobservable := by
  refine ⟨fun c m _ _ => ⟨rfl, .inr ⟨neverPublished_assertReset (.resetOf c), nofun⟩⟩,
    fun s s' t t' l hi hi' hd ht ht' => ?_⟩
  obtain ⟨hs', h⟩ := differOnlyInUnwritten_iff.1 hd
  obtain ⟨m, hrun, hm⟩ := feed_agreesOnWritten h hi (hs' ▸ hi') ht
  rw [← hs', ht'] at hrun
  obtain rfl : t' = t.setNext m := Host.Outcome.next.inj hrun
  exact ⟨⟨rfl, hm⟩, rfl, rfl⟩

end Sys2Proof.Machine
end

section
/-! SUPPORT. The obligations of 41_tables.md: the constraints on neighbouring table entries (rules R152, R153, R156 and
R157), carried to any two values, planes and buckets. -/

namespace Sys2Proof.Config

variable (c : Config)

/-! ## The tables between neighbouring entries, as elaboration checked them (00_scope.md rule R11) -/

theorem gammaLut_le_succ (ch : Fin 3) (v : Fin 255) :
    (c.GAMMA_LUT[ch.val][v.val]).toNat ≤ (c.GAMMA_LUT[ch.val][v.val + 1]).toNat := by
  obtain ⟨-, -, -, -, -, -, hmono, -⟩ := (Params.wf_iff _).1 c.ok
  exact of_decide_eq_true hmono ch v

theorem gammaLut_zero (ch : Fin 3) : c.GAMMA_LUT[ch.val][0] = 0 := by
  obtain ⟨-, -, -, -, -, -, -, hzero, -⟩ := (Params.wf_iff _).1 c.ok
  exact of_decide_eq_true hzero ch

theorem delayLut_le_succ_plane (b : Fin 8) (p : Fin 10) :
    c.DELAY_LUT[b.val][p.val] ≤ c.DELAY_LUT[b.val][p.val + 1] := by
  obtain ⟨-, -, -, -, -, -, -, -, -, hplane, -⟩ := (Params.wf_iff _).1 c.ok
  exact of_decide_eq_true hplane b p

theorem delayLut_le_succ_bucket (p : Fin 11) (b : Fin 7) :
    c.DELAY_LUT[b.val][p.val] ≤ c.DELAY_LUT[b.val + 1][p.val] := by
  obtain ⟨-, -, -, -, -, -, -, -, -, -, hbucket⟩ := (Params.wf_iff _).1 c.ok
  exact of_decide_eq_true hbucket p b

end Sys2Proof.Config

namespace Sys2Proof.Machine

variable {c : Config}

/-! ## The lookups over any two arguments
A table whose entries do not fall from one to the next is monotone (`Fin.monotone_iff_le_succ`). -/

/-- Rule R152 for any two values. -/
theorem gamma_le_gamma (ch : Channel) {v v' : Byte} (h : v ≤ v') : gamma c ch v ≤ gamma c ch v' := by
  have hmono : Monotone fun i : Fin 256 => (c.GAMMA_LUT[ch.index.val][i.val]).toNat :=
    Fin.monotone_iff_le_succ.2 (c.gammaLut_le_succ ch.index)
  exact hmono (a := v.toFin) (b := v'.toFin) h

/-- Rule R153. -/
theorem gamma_zero (ch : Channel) : gamma c ch 0 = 0 := c.gammaLut_zero ch.index

/-- Rule R156 for any two planes. -/
theorem delay_le_delay_of_plane_le (b : Bucket) {p p' : Plane} (h : p ≤ p') : delay c b p ≤ delay c b p' := by
  have hmono : Monotone fun i : Fin 11 => c.DELAY_LUT[b.toFin.val][i.val] :=
    Fin.monotone_iff_le_succ.2 (c.delayLut_le_succ_plane b.toFin)
  exact hmono h

/-- Rule R157 for any two buckets. -/
theorem delay_le_delay_of_bucket_le (p : Plane) {b b' : Bucket} (h : b ≤ b') : delay c b p ≤ delay c b' p := by
  have hmono : Monotone fun i : Fin 8 => c.DELAY_LUT[i.val][p.val] :=
    Fin.monotone_iff_le_succ.2 (c.delayLut_le_succ_bucket p)
  exact hmono (a := b.toFin) (b := b'.toFin) h

/-- Settles O7: the lookups are monotone and start at zero, and a gamma value has 11 bits. -/
theorem tablesRise : Obligations.TablesRise :=
  ⟨fun _ ch v _ => ⟨gamma_le_gamma ch, Nat.le_of_lt_succ (gamma _ ch v).isLt, gamma_zero ch⟩,
    fun _ b _ p _ => ⟨delay_le_delay_of_plane_le b, delay_le_delay_of_bucket_le p⟩⟩

end Sys2Proof.Machine
end

section
/-! SUPPORT. The obligations of 42_scan.md, first part: the SCAN step (rule R176), the pins in each cycle (rules R173 and
R175), the pulses of a slot (rules R181 to R184), when ADDR changes (rule R180), and the colours of all-zero and uniform
frames (rules R193 and R194). -/

namespace Sys2Proof.Machine

/-! ## The SCAN step (rule R176) -/

theorem nextPlace_scan {s : State} (hs : s.st = .scan) : nextPlace s =
    if s.j + 1 < slotLength s.cfg s.pass_bucket s.p then ⟨.scan, s.k, s.p, s.r, s.j + 1⟩
    else if s.r.toNat + 1 < s.cfg.R then ⟨.scan, s.k, s.p, s.r + 1, 0⟩
    else if s.p < 10 then ⟨.scan, s.k, s.p + 1, 0, 0⟩
    else ⟨.idle, s.k, 0, 0, 0⟩ := by
  unfold nextPlace; rw [hs]

/-- The slot length with its phases written out (rule R174). -/
theorem slotLength_eq (c : Config) (b : Bucket) (p : Plane) :
    slotLength c b p = 2 * c.W * c.P + 2 * c.P + delay c b p := by
  unfold slotLength shiftLength; omega

theorem afterRender_cfg (s : State) : (afterRender s).cfg = s.cfg := rfl

theorem plane_succ_val {p : Plane} (hp : p.val < 10) : (p + 1).val = p.val + 1 :=
  Fin.val_add_one_of_lt (Fin.lt_def.2 hp)

/-- The row counter never wraps (10_state.md rule R42). -/
theorem row_succ_toNat {c : Config} {r : BitVec 5} (hr : r.toNat + 1 < c.R) : (r + 1).toNat = r.toNat + 1 := by
  have := c.R_le
  rw [BitVec.toNat_add, show (1 : BitVec 5).toNat = 1 from rfl]
  omega

/-- Settles O33: the place that SCAN leads to, and ADDR where the ADDR phase begins. -/
theorem scanStepCountsSlotsRowsPlanes : Obligations.ScanStepCountsSlotsRowsPlanes := by
  intro s hr hs
  refine ⟨afterRender s, (event_clk_r_eq_next hr).2 ⟨by simp [hs], rfl⟩, ?_, ?_⟩
  · show (if s.st = .scan ∧ s.j + 1 = shiftLength s.cfg then s.r else s.addr_reg) = _
    simp only [hs, true_and, shiftLength]
  · simp only [afterRender_st, afterRender_p, afterRender_r, afterRender_j, nextPlace_scan hs, slotLength_eq]
    by_cases h1 : s.j + 1 < 2 * s.cfg.W * s.cfg.P + 2 * s.cfg.P + delay s.cfg s.pass_bucket s.p
    · simp only [if_pos h1, and_self]
    · by_cases h2 : s.r.toNat + 1 < s.cfg.R
      · simp only [if_neg h1, if_pos h2, and_self]
      · by_cases h3 : s.p < 10
        · have hp : s.p.val < 10 := h3
          simp only [if_neg h1, if_neg h2, if_pos h3, if_pos hp, plane_succ_val hp, and_self]
        · have hp : ¬s.p.val < 10 := h3
          simp only [if_neg h1, if_neg h2, if_neg h3, if_neg hp, and_self]

/-- The SCAN step from a place in range: on in the slot, or from the last cycle of the slot to the next row, from the last
row to the next plane, and from the last plane to IDLE. -/
theorem afterRender_scan_cases {s : State} (h : s.Inv) (hs : s.st = .scan) :
    (s.j + 1 < slotLength s.cfg s.pass_bucket s.p ∧ (afterRender s).st = .scan ∧ (afterRender s).p = s.p ∧
      (afterRender s).r = s.r ∧ (afterRender s).j = s.j + 1) ∨
    (s.j + 1 = slotLength s.cfg s.pass_bucket s.p ∧ (afterRender s).j = 0 ∧
      ((s.r.toNat + 1 < s.cfg.R ∧ (afterRender s).st = .scan ∧ (afterRender s).p = s.p ∧
          (afterRender s).r.toNat = s.r.toNat + 1) ∨
        (s.r.toNat + 1 = s.cfg.R ∧ (afterRender s).r = 0 ∧
          ((s.p.val < 10 ∧ (afterRender s).st = .scan ∧ (afterRender s).p.val = s.p.val + 1) ∨
            (s.p.val = 10 ∧ (afterRender s).st = .idle ∧ (afterRender s).p = 0))))) := by
  have hj := h.j_in_slot hs
  have hrow := h.row_in_range
  simp only [afterRender_st, afterRender_p, afterRender_r, afterRender_j]
  rw [nextPlace_scan hs]
  by_cases h1 : s.j + 1 < slotLength s.cfg s.pass_bucket s.p
  · rw [if_pos h1]
    exact .inl ⟨h1, rfl, rfl, rfl, rfl⟩
  have hend : s.j + 1 = slotLength s.cfg s.pass_bucket s.p := by omega
  rw [if_neg h1]
  by_cases h2 : s.r.toNat + 1 < s.cfg.R
  · rw [if_pos h2]
    exact .inr ⟨hend, rfl, .inl ⟨h2, rfl, rfl, row_succ_toNat h2⟩⟩
  have hlast : s.r.toNat + 1 = s.cfg.R := by omega
  rw [if_neg h2]
  by_cases h3 : s.p < 10
  · rw [if_pos h3]
    exact .inr ⟨hend, rfl, .inr ⟨hlast, rfl, .inl ⟨h3, rfl, plane_succ_val h3⟩⟩⟩
  · rw [if_neg h3]
    have hp : s.p.val = 10 := by have : ¬s.p.val < 10 := h3; omega
    exact .inr ⟨hend, rfl, .inr ⟨hlast, rfl, .inr ⟨hp, rfl, rfl⟩⟩⟩

/-! ## The pins by phase (rules R173 and R175) -/

/-- Outside SCAN the panel is dark with ADDR held (rule R173). -/
theorem pins_of_ne_scan {s : State} (hs : s.st ≠ .scan) : pins s = ⟨0, false, s.addr_reg, false, true⟩ := by
  unfold pins
  split
  · rfl
  · rfl
  · rfl
  · contradiction

/-- The four phases of a slot (rule R175). -/
theorem pins_scan_cases {s : State} (hs : s.st = .scan) :
    (s.j < shiftLength s.cfg ∧ pins s =
      ⟨colourWord s.cfg s.current s.p s.r.toNat (s.j / (2 * s.cfg.P)), decide (s.cfg.P ≤ s.j % (2 * s.cfg.P)),
        s.addr_reg, false, true⟩) ∨
    (shiftLength s.cfg ≤ s.j ∧ s.j < shiftLength s.cfg + s.cfg.P ∧ pins s = ⟨0, false, s.addr_reg, false, true⟩) ∨
    (shiftLength s.cfg + s.cfg.P ≤ s.j ∧ s.j < shiftLength s.cfg + 2 * s.cfg.P ∧
      pins s = ⟨0, false, s.addr_reg, true, true⟩) ∨
    (shiftLength s.cfg + 2 * s.cfg.P ≤ s.j ∧ pins s = ⟨0, false, s.addr_reg, false, false⟩) := by
  have hpins : pins s = scanPins s := by unfold pins; rw [hs]
  rw [hpins]
  unfold scanPins
  by_cases h1 : s.j < shiftLength s.cfg
  · exact .inl ⟨h1, if_pos h1⟩
  simp only [if_neg h1]
  by_cases h2 : s.j < shiftLength s.cfg + s.cfg.P
  · exact .inr (.inl ⟨by omega, h2, if_pos h2⟩)
  simp only [if_neg h2]
  by_cases h3 : s.j < shiftLength s.cfg + 2 * s.cfg.P
  · exact .inr (.inr (.inl ⟨by omega, h3, if_pos h3⟩))
  · exact .inr (.inr (.inr ⟨by omega, if_neg h3⟩))

/-- Settles O38: the phases exclude each other, and clk_r in reset is in INIT. -/
theorem pinsFollowThePhases : Obligations.PinsFollowThePhases := by
  intro s
  refine ⟨pins_of_ne_scan, fun h hr => ?_, fun hs => ?_⟩
  · obtain ⟨hinit, -⟩ := h.render_in_reset hr
    exact pins_of_ne_scan (by simp [hinit])
  · have hT : 2 * s.cfg.W * s.cfg.P = shiftLength s.cfg := rfl
    simp only [hT]
    have hP := s.cfg.P_pos
    rcases pins_scan_cases hs with ⟨hj, heq⟩ | ⟨hj, hj', heq⟩ | ⟨hj, hj', heq⟩ | ⟨hj, heq⟩
    · exact ⟨fun _ => heq, fun _ => by omega, fun _ => by omega, fun _ => by omega⟩
    · exact ⟨fun _ => by omega, fun _ _ => heq, fun _ => by omega, fun _ => by omega⟩
    · exact ⟨fun _ => by omega, fun _ _ => by omega, fun _ _ => heq, fun _ => by omega⟩
    · exact ⟨fun _ => by omega, fun _ _ => by omega, fun _ _ => by omega, fun _ => heq⟩

/-! ## The pins one by one -/

@[simp] theorem pins_ADDR (s : State) : (pins s).ADDR = s.addr_reg := by
  by_cases hs : s.st = .scan
  · rcases pins_scan_cases hs with ⟨-, h⟩ | ⟨-, -, h⟩ | ⟨-, -, h⟩ | ⟨-, h⟩ <;> rw [h]
  · rw [pins_of_ne_scan hs]

theorem pins_OE_N {s : State} (hs : s.st = .scan) :
    (pins s).OE_N = decide (s.j < shiftLength s.cfg + 2 * s.cfg.P) := by
  rcases pins_scan_cases hs with ⟨hj, h⟩ | ⟨-, hj, h⟩ | ⟨-, hj, h⟩ | ⟨hj, h⟩ <;> rw [h, eq_comm]
  · exact decide_eq_true (by omega)
  · exact decide_eq_true (by omega)
  · exact decide_eq_true hj
  · exact decide_eq_false (by omega)

theorem pins_LAT {s : State} (hs : s.st = .scan) : (pins s).LAT =
    decide (shiftLength s.cfg + s.cfg.P ≤ s.j ∧ s.j < shiftLength s.cfg + 2 * s.cfg.P) := by
  rcases pins_scan_cases hs with ⟨hj, h⟩ | ⟨-, hj, h⟩ | ⟨hj, hj', h⟩ | ⟨hj, h⟩ <;> rw [h, eq_comm]
  · exact decide_eq_false (by omega)
  · exact decide_eq_false (by omega)
  · exact decide_eq_true ⟨hj, hj'⟩
  · exact decide_eq_false (by omega)

/-- PCLK in cycle j of a slot: high in the second half of each column's 2·P cycles (rule R175). -/
def shiftClock (c : Config) (j : Nat) : Bool := decide (j < shiftLength c ∧ c.P ≤ j % (2 * c.P))

theorem shiftClock_iff (c : Config) (j : Nat) :
    shiftClock c j = true ↔ j < shiftLength c ∧ c.P ≤ j % (2 * c.P) := decide_eq_true_iff

theorem pins_PCLK {s : State} (hs : s.st = .scan) : (pins s).PCLK = shiftClock s.cfg s.j := by
  rw [shiftClock]
  rcases pins_scan_cases hs with ⟨hj, h⟩ | ⟨hj, -, h⟩ | ⟨hj, -, h⟩ | ⟨hj, h⟩ <;> rw [h]
  · simp only [hj, true_and]
  all_goals exact (decide_eq_false fun hlt => by omega).symm

theorem pins_RGB {s : State} (hs : s.st = .scan) : (pins s).RGB =
    if s.j < shiftLength s.cfg then colourWord s.cfg s.current s.p s.r.toNat (s.j / (2 * s.cfg.P)) else 0 := by
  rcases pins_scan_cases hs with ⟨hj, h⟩ | ⟨hj, -, h⟩ | ⟨hj, -, h⟩ | ⟨hj, h⟩ <;> rw [h]
  · rw [if_pos hj]
  all_goals exact (if_neg (by omega)).symm

/-! ## Counting cycles of a slot -/

theorem countP_range_between (a b n : Nat) :
    (List.range n).countP (fun j => decide (a ≤ j ∧ j < b)) = min n b - a := by
  induction n with
  | zero => simp
  | succ n ih =>
    rw [List.range_succ, List.countP_append, ih, List.countP_singleton]
    simp only [decide_eq_true_eq]
    split <;> omega

/-- Settles O40: OE_N is 0 from the end of the LAT phase on. -/
theorem holdLightsForItsDelay : Obligations.HoldLightsForItsDelay := by
  refine ⟨fun s hs => ?_, fun s hs => by rw [pins_of_ne_scan hs]⟩
  have hpins : ∀ j, (pins { s with j := j }).OE_N = decide (j < shiftLength s.cfg + 2 * s.cfg.P) :=
    fun j => pins_OE_N (s := { s with j := j }) hs
  have hlow : ∀ j, (pins { s with j := j }).OE_N = false ↔ shiftLength s.cfg + 2 * s.cfg.P ≤ j := fun j => by
    rw [hpins, decide_eq_false_iff_not, Nat.not_lt]
  have hS : slotLength s.cfg s.pass_bucket s.p =
      shiftLength s.cfg + 2 * s.cfg.P + delay s.cfg s.pass_bucket s.p := by unfold slotLength; omega
  refine ⟨hS, ?_, fun j _ => hlow j, fun hd => ⟨by rw [hS, hd]; rfl, fun j hj => ?_⟩⟩
  · have hin : ∀ j ∈ List.range (slotLength s.cfg s.pass_bucket s.p),
        ((pins { s with j := j }).OE_N == false) = true ↔
        decide (shiftLength s.cfg + 2 * s.cfg.P ≤ j ∧ j < slotLength s.cfg s.pass_bucket s.p) = true := fun j hj => by
      rw [beq_iff_eq, hlow, decide_eq_true_iff]
      exact (and_iff_left (List.mem_range.1 hj)).symm
    rw [List.countP_congr hin, countP_range_between, hS]
    omega
  · rw [hpins]
    exact decide_eq_true (by omega)

/-! ## The words shifted in a slot (rules R175 and R184) -/

variable {c : Config}

/-- PCLK rises in cycle j of a slot: P cycles after the column's word came on RGB. -/
def clockRises (c : Config) (j : Nat) : Bool := decide (j < shiftLength c ∧ j % (2 * c.P) = c.P)

theorem clockRises_iff (c : Config) (j : Nat) :
    clockRises c j = true ↔ j < shiftLength c ∧ j % (2 * c.P) = c.P := decide_eq_true_iff

theorem pred_mod {j m : Nat} (h : j % m ≠ 0) : (j - 1) % m = j % m - 1 := by
  rcases Nat.eq_zero_or_pos m with rfl | hm
  · simp
  have hlt := Nat.mod_lt j hm
  have hj : j - 1 = m * (j / m) + (j % m - 1) := by have := Nat.div_add_mod j m; omega
  rw [hj, Nat.mul_add_mod, Nat.mod_eq_of_lt (by omega)]

/-- A rising edge is a cycle with PCLK = 1 after one with PCLK = 0, cycle 0 of the slot being low itself. -/
theorem clockRises_eq (c : Config) (j : Nat) :
    clockRises c j = (shiftClock c j && (j == 0 || shiftClock c (j - 1) == false)) := by
  have hP := c.P_pos
  rw [Bool.eq_iff_iff, Bool.and_eq_true, Bool.or_eq_true, beq_iff_eq, beq_iff_eq, ← Bool.not_eq_true,
    clockRises_iff, shiftClock_iff, shiftClock_iff]
  by_cases hmod : j % (2 * c.P) = 0
  · omega
  · have hj : j ≠ 0 := fun h => hmod (by rw [h, Nat.zero_mod])
    rw [pred_mod hmod]
    omega

/-- The words of a slot that are shifted before cycle j: column x is, if its rising edge lies before. -/
def shiftedWords (c : Config) (j : Nat) : Nat := min (j / (2 * c.P) + if c.P < j % (2 * c.P) then 1 else 0) c.W

theorem shiftedWords_zero : shiftedWords c 0 = 0 := by simp [shiftedWords]

/-- In the SHIFT phase the column is in range. -/
theorem lt_shiftLength_iff (c : Config) (j : Nat) : j < shiftLength c ↔ j / (2 * c.P) < c.W := by
  have hP := c.P_pos
  rw [Nat.div_lt_iff_lt_mul (by omega), shiftLength]
  ring_nf

theorem shiftedWords_succ (c : Config) (j : Nat) :
    shiftedWords c (j + 1) = shiftedWords c j + (clockRises c j).toNat := by
  have hP := c.P_pos
  have hmod := Nat.mod_lt j (show 0 < 2 * c.P by omega)
  have hdm := Nat.div_add_mod j (2 * c.P)
  have hrise : (clockRises c j).toNat = if j / (2 * c.P) < c.W ∧ j % (2 * c.P) = c.P then 1 else 0 := by
    simp only [clockRises, lt_shiftLength_iff, Bool.toNat, Bool.cond_decide]
  rw [hrise, shiftedWords, shiftedWords]
  by_cases hlast : j % (2 * c.P) + 1 = 2 * c.P
  · obtain ⟨hdiv', hmod'⟩ := (Nat.div_mod_unique (a := j + 1) (c := 0) (d := j / (2 * c.P) + 1)
      (show 0 < 2 * c.P by omega)).2 ⟨by rw [Nat.mul_add]; omega, by omega⟩
    rw [hdiv', hmod']
    split_ifs <;> omega
  · obtain ⟨hdiv', hmod'⟩ := (Nat.div_mod_unique (a := j + 1) (c := j % (2 * c.P) + 1) (d := j / (2 * c.P))
      (show 0 < 2 * c.P by omega)).2 ⟨by omega, by omega⟩
    rw [hdiv', hmod']
    split_ifs <;> omega

/-- The rising edge of a column follows those of the columns before it. -/
theorem shiftedWords_of_clockRises {j : Nat} (h : clockRises c j = true) :
    shiftedWords c j = j / (2 * c.P) ∧ shiftedWords c j < c.W := by
  obtain ⟨hj, hmod⟩ := (clockRises_iff c j).1 h
  have hW := (lt_shiftLength_iff c j).1 hj
  rw [shiftedWords, hmod]
  simp only [lt_irrefl, if_false]
  omega

/-- From the end of the SHIFT phase on all W words are shifted. -/
theorem shiftedWords_of_ge {j : Nat} (h : shiftLength c ≤ j) : shiftedWords c j = c.W := by
  have hW := (lt_shiftLength_iff c j).not.1 (Nat.not_lt.2 h)
  unfold shiftedWords
  omega

theorem countP_clockRises (c : Config) (n : Nat) : (List.range n).countP (clockRises c) = shiftedWords c n := by
  induction n with
  | zero => exact shiftedWords_zero.symm
  | succ n ih =>
    rw [List.range_succ, List.countP_append, ih, List.countP_singleton, shiftedWords_succ]
    cases clockRises c n <;> rfl

/-- Settles O41: LAT is high in one range of P cycles, and PCLK rises once a column. -/
theorem oneLatchPulseAndWClockPulses : Obligations.OneLatchPulseAndWClockPulses := by
  refine ⟨fun s hs => ?_, fun s hs => by rw [pins_of_ne_scan hs]; exact ⟨rfl, rfl⟩⟩
  have hP := s.cfg.P_pos
  have hS : shiftLength s.cfg + 2 * s.cfg.P ≤ slotLength s.cfg s.pass_bucket s.p := slotLength_pos ..
  have hLAT : ∀ j, (pins { s with j := j }).LAT =
      decide (shiftLength s.cfg + s.cfg.P ≤ j ∧ j < shiftLength s.cfg + 2 * s.cfg.P) :=
    fun j => pins_LAT (s := { s with j := j }) hs
  have hOE : ∀ j, (pins { s with j := j }).OE_N = decide (j < shiftLength s.cfg + 2 * s.cfg.P) :=
    fun j => pins_OE_N (s := { s with j := j }) hs
  have hPCLK : ∀ j, (pins { s with j := j }).PCLK = shiftClock s.cfg j :=
    fun j => pins_PCLK (s := { s with j := j }) hs
  have hlow : ∀ j, shiftLength s.cfg ≤ j → shiftClock s.cfg j = false := fun j hj =>
    decide_eq_false fun hlt => by omega
  simp only [hLAT, hOE, hPCLK]
  refine ⟨?_, fun j => decide_eq_true_iff, fun j hj => ?_, ?_, fun x i hx hi => ?_, hlow⟩
  · rw [countP_range_between]
    omega
  · obtain ⟨hj1, hj2⟩ := of_decide_eq_true hj
    exact ⟨decide_eq_true hj2, hlow j (by omega)⟩
  · simp only [← clockRises_eq]
    rw [countP_clockRises, shiftedWords_of_ge (by omega)]
  · obtain ⟨hdiv, hmod⟩ := (Nat.div_mod_unique (a := 2 * s.cfg.P * x + i) (c := i) (d := x)
      (show 0 < 2 * s.cfg.P by omega)).2 ⟨Nat.add_comm _ _, hi⟩
    have hj : 2 * s.cfg.P * x + i < shiftLength s.cfg := (lt_shiftLength_iff ..).2 (by rwa [hdiv])
    refine ⟨?_, by rw [shiftClock_iff, hmod, and_iff_right hj]⟩
    rw [pins_RGB (s := { s with j := 2 * s.cfg.P * x + i }) hs, if_pos hj, hdiv]

/-! ## ADDR (rule R180) -/

theorem afterRender_addr_reg_eq (s : State) : (afterRender s).addr_reg =
    if s.st = .scan ∧ s.j + 1 = shiftLength s.cfg then s.r else s.addr_reg := rfl

/-- The ADDR phase belongs to the slot whose SHIFT phase it follows. -/
theorem afterRender_enters_addr_phase {s : State} (hs : s.st = .scan) (hj : s.j + 1 = shiftLength s.cfg) :
    (afterRender s).st = .scan ∧ (afterRender s).j = shiftLength s.cfg := by
  have hP := s.cfg.P_pos
  have hS := slotLength_pos s.cfg s.pass_bucket s.p
  rw [afterRender_st, afterRender_j, nextPlace_scan hs, if_pos (by omega), hj]
  exact ⟨rfl, rfl⟩

/-- Settles O42: the step into the ADDR phase leads from the SHIFT phase, and both are dark. -/
theorem addressChangesInTheDark : Obligations.AddressChangesInTheDark := by
  refine ⟨fun s t h hr ht => ?_, fun c => pins_ADDR _⟩
  have hinv := h.event_inv ht
  obtain ⟨-, rfl⟩ := (event_clk_r_eq_next hr).1 ht
  have hT : 2 * s.cfg.W * s.cfg.P = shiftLength s.cfg := rfl
  simp only [pins_ADDR, hT]
  refine ⟨afterRender_addr_reg_eq s, fun hne => ?_, fun hst hj => hinv.addr_holds_row hst hj⟩
  rw [afterRender_addr_reg_eq] at hne
  by_cases hphase : s.st = .scan ∧ s.j + 1 = shiftLength s.cfg
  · obtain ⟨hs, hj⟩ := hphase
    obtain ⟨hst, hj'⟩ := afterRender_enters_addr_phase hs hj
    have hP := s.cfg.P_pos
    rw [pins_OE_N hs, pins_OE_N hst, hj', afterRender_cfg]
    exact ⟨decide_eq_true (by omega), decide_eq_true (by omega)⟩
  · exact absurd (if_neg hphase) hne

/-! ## Colours of uniform frames (rules R193 and R194) -/

/-- Every pixel's bytes are in the frame (20_memory.md rules R71 and R72). -/
theorem frameOffset_lt {y x : Nat} (hy : y < c.H) (hx : x < c.W) (ch : Channel) : frameOffset c y x ch < c.N := by
  have hch := ch.index.isLt
  have hrows : (y + 1) * c.W ≤ c.H * c.W := Nat.mul_le_mul_right _ hy
  have hN : c.N = 3 * (c.H * c.W) := by unfold Params.N; ring
  rw [Nat.add_mul] at hrows
  unfold frameOffset
  omega

/-- A byte of 0x00 sets no bit of a word (41_tables.md rule R153). -/
theorem pixelBit_of_read_zero {m : Memory} {p : Plane} {y x : Nat} {ch : Channel}
    (h : m.read (frameOffset c y x ch) = 0) : pixelBit c m p y x ch = false := by
  rw [pixelBit, h, gammaBit, gamma_zero]
  simp

/-- The word's upper half is the bottom pixel and its lower half the top pixel (rule R178). -/
theorem colourWord_eq_append (c : Config) (m : Memory) (p : Plane) (r x : Nat) : colourWord c m p r x =
    (BitVec.ofBool (pixelBit c m p (r + c.R) x .blue) ++ BitVec.ofBool (pixelBit c m p (r + c.R) x .green) ++
      BitVec.ofBool (pixelBit c m p (r + c.R) x .red)) ++
    (BitVec.ofBool (pixelBit c m p r x .blue) ++ BitVec.ofBool (pixelBit c m p r x .green) ++
      BitVec.ofBool (pixelBit c m p r x .red)) := by
  have hassoc : ∀ b5 b4 b3 b2 b1 b0 : Bool, BitVec.ofBool b5 ++ BitVec.ofBool b4 ++ BitVec.ofBool b3 ++
      BitVec.ofBool b2 ++ BitVec.ofBool b1 ++ BitVec.ofBool b0 = (BitVec.ofBool b5 ++ BitVec.ofBool b4 ++
      BitVec.ofBool b3) ++ (BitVec.ofBool b2 ++ BitVec.ofBool b1 ++ BitVec.ofBool b0) := by decide
  exact hassoc ..

/-- Rows r and r + R are rows of the frame (20_memory.md rule R72). -/
theorem row_lt_H {r : Nat} (hr : r < c.R) : r < c.H ∧ r + c.R < c.H := by have := c.two_R; omega

/-- Settles O43: over an all-zero frame each of the six bits is 0, and over a uniform frame the top and the bottom pixel
have equal bytes. -/
theorem zeroAndUniformFrames : Obligations.ZeroAndUniformFrames := by
  refine ⟨fun s h hzero => ?_, fun c m red green blue hm p r x hr hx => ?_⟩
  · by_cases hs : s.st = .scan
    · obtain ⟨htop, hbot⟩ := row_lt_H h.row_in_range
      rw [pins_RGB hs]
      split
      case isTrue hj =>
        have hx := (lt_shiftLength_iff ..).1 hj
        simp only [colourWord_eq_append, pixelBit_of_read_zero (hzero _ (frameOffset_lt htop hx _)),
          pixelBit_of_read_zero (hzero _ (frameOffset_lt hbot hx _))]
        rfl
      case isFalse => rfl
    · rw [pins_of_ne_scan hs]
  · obtain ⟨htop, hbot⟩ := row_lt_H hr
    have hbit : ∀ y, y < c.H → pixelBit c m p y x .red = (gamma c .red red).getLsbD p.val ∧
        pixelBit c m p y x .green = (gamma c .green green).getLsbD p.val ∧
        pixelBit c m p y x .blue = (gamma c .blue blue).getLsbD p.val := fun y hy => by
      obtain ⟨h0, h1, h2⟩ := hm y x hy hx
      rw [← h0, ← h1, ← h2]
      exact ⟨pixelBit_eq .., pixelBit_eq .., pixelBit_eq ..⟩
    obtain ⟨ht0, ht1, ht2⟩ := hbit r htop
    obtain ⟨hb0, hb1, hb2⟩ := hbit (r + c.R) hbot
    rw [colourWord_eq_append, ht0, ht1, ht2, hb0, hb1, hb2]

end Sys2Proof.Machine
end

section
/-! SUPPORT. The obligations of 42_scan.md, second part: the schedule of a pass. The cycles in which the slots start and the
pass ends (rules R187 and R189), and that nothing but its inputs decides the pins of a pass (rule R195). -/

namespace Sys2Proof.Machine

/-! ## Sums over the planes below one (rule R187) -/

/-- f 0 + … + f (n − 1), over planes. -/
def planeSum (f : Plane → Nat) (n : Nat) : Nat :=
  (((List.finRange 11).filter fun q => decide (q.val < n)).map f).sum

theorem planeSum_eq_sum (f : Plane → Nat) (n : Nat) : planeSum f n = ∑ q : Plane with q.val < n, f q := by
  rw [planeSum, ← List.sum_toFinset f ((List.nodup_finRange 11).filter _), List.toFinset_filter, List.toFinset_finRange]
  simp only [decide_eq_true_eq]

@[simp] theorem planeSum_zero (f : Plane → Nat) : planeSum f 0 = 0 := by simp [planeSum_eq_sum]

theorem planeSum_succ (f : Plane → Nat) (p : Plane) : planeSum f (p.val + 1) = planeSum f p.val + f p := by
  have hset : (Finset.univ.filter fun q : Plane => q.val < p.val + 1) =
      insert p (Finset.univ.filter fun q : Plane => q.val < p.val) := by
    ext q
    simp only [Finset.mem_filter, Finset.mem_univ, true_and, Finset.mem_insert, Fin.ext_iff]
    omega
  rw [planeSum_eq_sum, hset, Finset.sum_insert (by simp), ← planeSum_eq_sum, Nat.add_comm]

/-- All 11 planes are below 11. -/
theorem planeSum_all (f : Plane → Nat) : planeSum f 11 = ((List.finRange 11).map f).sum := by
  rw [planeSum, List.filter_eq_self.2 fun q _ => decide_eq_true q.isLt]

theorem planeSum_mono (f : Plane → Nat) {m n : Nat} (h : m ≤ n) : planeSum f m ≤ planeSum f n := by
  simp only [planeSum_eq_sum]
  refine Finset.sum_le_sum_of_subset fun q hq => ?_
  simp only [Finset.mem_filter, Finset.mem_univ, true_and] at hq ⊢
  omega

/-! ## The cycles of a pass (rules R187 and R189) -/

variable {c : Config} {b : Bucket} {take : Bool}

theorem planesLength_succ (p : Plane) :
    planesLength c b (p.val + 1) = planesLength c b p.val + c.R * slotLength c b p := by
  show c.R * planeSum (slotLength c b) (p.val + 1) = c.R * planeSum (slotLength c b) p.val + c.R * slotLength c b p
  rw [planeSum_succ, Nat.mul_add]

theorem planesLength_mono {m n : Nat} (h : m ≤ n) : planesLength c b m ≤ planesLength c b n :=
  Nat.mul_le_mul_left _ (planeSum_mono _ h)

/-- The pass ends with its last plane. -/
theorem passLength_eq : passLength c b take = scanStart c take + planesLength c b 11 := by
  have hsum : planeSum (slotLength c b) 11 = 11 * (2 * c.P * (c.W + 1)) + ((List.finRange 11).map (delay c b)).sum := by
    rw [planeSum_all, show slotLength c b = fun p => 2 * c.P * (c.W + 1) + delay c b p from funext fun p => by
      rw [slotLength_eq]; ring]
    simp only [List.sum_map_add, List.map_const', List.sum_replicate, List.length_finRange, smul_eq_mul]
  have hplanes : planesLength c b 11 = c.R * planeSum (slotLength c b) 11 := rfl
  rw [hplanes, hsum, passLength, scanStart]
  cases take <;> rfl

/-- A cycle of a slot lies before the end of its plane. -/
theorem slotStart_add_lt {p : Plane} {r j : Nat} (hr : r < c.R) (hj : j < slotLength c b p) :
    slotStart c b take p r + j < scanStart c take + planesLength c b (p.val + 1) := by
  have hrows : (r + 1) * slotLength c b p ≤ c.R * slotLength c b p := Nat.mul_le_mul_right _ hr
  rw [planesLength_succ, slotStart]
  rw [Nat.add_mul] at hrows
  omega

theorem scanStart_le_slotStart (p : Plane) (r : Nat) : scanStart c take ≤ slotStart c b take p r := by
  unfold slotStart; omega

theorem slotStart_add_lt_passLength {p : Plane} {r j : Nat} (hr : r < c.R) (hj : j < slotLength c b p) :
    slotStart c b take p r + j < passLength c b take := by
  have h1 := slotStart_add_lt (take := take) hr hj
  have h2 : planesLength c b (p.val + 1) ≤ planesLength c b 11 := planesLength_mono (by omega)
  rw [passLength_eq]
  omega

theorem scanStart_pos : 1 ≤ scanStart c take := by unfold scanStart; split <;> omega

/-- The HOLD begins after the SHIFT, ADDR and LAT phases (rule R174). -/
theorem holdStart_eq (c : Config) : 2 * c.P * (c.W + 1) = shiftLength c + 2 * c.P := by unfold shiftLength; ring

theorem slotStart_zero : slotStart c b take 0 0 = scanStart c take := by
  show scanStart c take + c.R * planeSum (slotLength c b) 0 + 0 * slotLength c b 0 = _
  simp

/-- After the last cycle of a slot the next row's slot starts. -/
theorem slotStart_next_row (p : Plane) (r : Nat) :
    slotStart c b take p (r + 1) = slotStart c b take p r + slotLength c b p := by
  unfold slotStart; rw [Nat.add_mul]; omega

/-- After the last row's slot the plane ends. -/
theorem slotStart_last_row {p : Plane} {r : Nat} (hr : r + 1 = c.R) :
    slotStart c b take p r + slotLength c b p = scanStart c take + planesLength c b (p.val + 1) := by
  rw [← slotStart_next_row, hr, slotStart, planesLength_succ]
  omega

/-- A cycle of an earlier plane comes before a cycle of a later one. -/
theorem slotStart_lt_of_plane_lt {p p' : Plane} {r r' j j' : Nat} (hp : p < p') (hr : r < c.R)
    (hj : j < slotLength c b p) : slotStart c b take p r + j < slotStart c b take p' r' + j' := by
  have h1 := slotStart_add_lt (take := take) hr hj
  have h2 : planesLength c b (p.val + 1) ≤ planesLength c b p'.val := planesLength_mono hp
  have h3 : scanStart c take + planesLength c b p'.val ≤ slotStart c b take p' r' := Nat.le_add_right _ _
  omega

/-- The cycle of a pass tells the place in the scan. -/
theorem slotStart_inj {p p' : Plane} {r r' j j' : Nat} (hr : r < c.R) (hr' : r' < c.R) (hj : j < slotLength c b p)
    (hj' : j' < slotLength c b p') (h : slotStart c b take p r + j = slotStart c b take p' r' + j') :
    p = p' ∧ r = r' ∧ j = j' := by
  rcases lt_trichotomy p p' with hp | rfl | hp
  · exact absurd h (slotStart_lt_of_plane_lt hp hr hj).ne
  · have heq : j + slotLength c b p * r = j' + slotLength c b p * r' := by
      unfold slotStart at h
      rw [Nat.mul_comm, Nat.mul_comm _ r']
      omega
    obtain ⟨hdiv, hmod⟩ := (Nat.div_mod_unique (Nat.zero_lt_of_lt hj)).2 ⟨rfl, hj⟩
    obtain ⟨hdiv', hmod'⟩ := (Nat.div_mod_unique (Nat.zero_lt_of_lt hj')).2 ⟨heq.symm, hj'⟩
    exact ⟨rfl, hdiv.symm.trans hdiv', hmod.symm.trans hmod'⟩
  · exact absurd h (slotStart_lt_of_plane_lt hp hr' hj').ne'

/-! ## Runs, cycle by cycle
A run without a reset, seen at its clk_r edges. What holds of a state and is about the clk_r registers only is kept by a
clk_i edge, so it is enough to say what each clk_r edge makes of it. -/

/-- With no change of rst_n, an event is a clk_i edge, which leaves clk_r's registers alone, or a DOM_R step. -/
theorem event_noReset {e : Input} {s : State} (h : s.Inv) (hr : runsR s = true) (he : ∀ level, e ≠ .rst_n level) :
    (∃ v w t, e = .clk_i v w ∧ edgeI v w s = .next t ∧ event e s = .next t ∧ t.Inv ∧ runsR t = true) ∨
    (e = .clk_r ∧ event e s = .next (afterRender s) ∧ (afterRender s).Inv ∧ runsR (afterRender s) = true) := by
  cases e with
  | rst_n level => exact absurd rfl (he level)
  | clk_i v w =>
    obtain ⟨t, ht⟩ := exists_edgeI_eq_next v w h.cursor_in_frame
    exact .inl ⟨v, w, t, rfl, ht, ht, h.edgeI_inv ht, by rw [edgeI_frame ht]; exact hr⟩
  | clk_r =>
    have ht : event .clk_r s = .next (afterRender s) := (event_clk_r_eq_next hr).2 ⟨fun _ => h.k_in_frame, rfl⟩
    exact .inr ⟨rfl, ht, h.event_inv ht, hr⟩

/-- What every clk_i edge keeps, and every clk_r edge takes from one cycle to the next up to cycle N, holds after a run
that ends by cycle N. -/
theorem feed_cycles {P : Nat → State → Prop} {N : Nat}
    (hi : ∀ {n v w s t}, edgeI v w s = .next t → P n s → P n t)
    (hr : ∀ {n s}, s.Inv → n < N → P n s → P (n + 1) (afterRender s))
    {l : List Input} {n : Nat} {s : State} (h : s.Inv) (hrun : runsR s = true) (hl : noReset l = true)
    (hn : n + renderEdges l ≤ N) (hs : P n s) :
    ∃ t, feed l s = .next t ∧ t.Inv ∧ runsR t = true ∧ P (n + renderEdges l) t := by
  induction l generalizing n s with
  | nil => exact ⟨s, rfl, h, hrun, hs⟩
  | cons e l ih =>
    obtain ⟨he, hl⟩ := (noReset_cons e l).1 hl
    rcases event_noReset h hrun he with ⟨v, w, u, rfl, hedge, hu, hinv, hrun'⟩ | ⟨rfl, hu, hinv, hrun'⟩
    · rw [renderEdges_clk_i] at hn ⊢
      obtain ⟨t, ht, hrest⟩ := ih hinv hrun' hl hn (hi hedge hs)
      exact ⟨t, feed_cons_eq_next.2 ⟨u, hu, ht⟩, hrest⟩
    · rw [renderEdges_clk_r, Nat.add_comm _ 1, ← Nat.add_assoc] at hn ⊢
      obtain ⟨t, ht, hrest⟩ := ih hinv hrun' hl hn (hr h (by omega) hs)
      exact ⟨t, feed_cons_eq_next.2 ⟨_, hu, ht⟩, hrest⟩

/-- A state that meets the invariant runs through every list without a reset. -/
theorem exists_feed_eq_next {l : List Input} {s : State} (h : s.Inv) (hr : runsR s = true) (hl : noReset l = true) :
    ∃ t, feed l s = .next t := by
  obtain ⟨t, ht, -⟩ := feed_cycles (P := fun _ _ => True) (fun _ _ => trivial) (fun _ _ _ => trivial) h hr hl
    (Nat.le_refl (0 + renderEdges l)) trivial
  exact ⟨t, ht⟩

/-! ## Cycle n of a pass -/

/-- The state is in cycle n of a pass in configuration c with bucket b, whose IDLE step takes a swap or not: IDLE in cycle
0, then the COPY of the swap, then the slot of the cycle (rule R187), and at the end the next IDLE. -/
def inPass (c : Config) (b : Bucket) (take : Bool) (n : Nat) (s : State) : Prop :=
  s.cfg = c ∧
    ((s.st = .idle ∧ n = 0 ∧ s.bucket_r = b ∧ swapTaken s = take) ∨
      (s.st = .copy ∧ n = 1 + s.k.toNat ∧ s.pass_bucket = b ∧ take = true) ∨
      (s.st = .scan ∧ n = slotStart c b take s.p s.r.toNat + s.j ∧ s.pass_bucket = b) ∨
      (s.st = .idle ∧ n = passLength c b take))

theorem inPass_start {s : State} (hs : s.st = .idle) : inPass s.cfg s.bucket_r (swapTaken s) 0 s :=
  ⟨rfl, .inl ⟨hs, rfl, rfl, rfl⟩⟩

theorem inPass_edgeI {n : Nat} {v : Bool} {w : Word} {s t : State} (ht : edgeI v w s = .next t)
    (h : inPass c b take n s) : inPass c b take n t := by
  rw [edgeI_frame ht]; exact h

/-- The IDLE step begins the COPY or the SCAN (40_frame_store.md rule R133). -/
theorem inPass_idle_step {s : State} (hs : s.st = .idle) :
    inPass s.cfg s.bucket_r (swapTaken s) 1 (afterRender s) := by
  have hb : (afterRender s).pass_bucket = s.bucket_r := if_pos hs
  refine ⟨rfl, ?_⟩
  simp only [afterRender_st, afterRender_k, afterRender_p, afterRender_r, afterRender_j]
  rw [nextPlace_idle hs]
  cases htake : swapTaken s with
  | true => exact .inr (.inl ⟨rfl, rfl, hb, rfl⟩)
  | false => exact .inr (.inr (.inl ⟨rfl, (slotStart_zero (take := false)).symm, hb⟩))

/-- The COPY step goes on to the next byte, and after N of them the SCAN begins (40_frame_store.md rule R134). -/
theorem inPass_copy_step {s : State} (h : s.Inv) (hs : s.st = .copy) :
    inPass s.cfg s.pass_bucket true (1 + s.k.toNat + 1) (afterRender s) := by
  have hb : (afterRender s).pass_bucket = s.pass_bucket := afterRender_pass_bucket (by simp [hs])
  have hk := h.k_in_frame
  refine ⟨rfl, ?_⟩
  simp only [afterRender_st, afterRender_k, afterRender_p, afterRender_r, afterRender_j]
  rw [nextPlace_copy hs]
  by_cases hend : kAtEnd s = true
  · have hN := (kAtEnd_iff s).1 hend
    have hstart : 1 + s.k.toNat + 1 = scanStart s.cfg true := by unfold scanStart; rw [if_pos rfl]; omega
    rw [if_pos hend]
    exact .inr (.inr (.inl ⟨rfl, hstart.trans slotStart_zero.symm, hb⟩))
  · rw [if_neg hend]
    exact .inr (.inl ⟨rfl, congrArg (1 + ·) (k_succ_toNat hk).symm, hb, trivial⟩)

/-- The SCAN step goes on in the slot or starts the next one, and the last slot is followed by IDLE (rule R176). -/
theorem inPass_scan_step {s : State} (h : s.Inv) (hs : s.st = .scan) :
    inPass s.cfg s.pass_bucket take (slotStart s.cfg s.pass_bucket take s.p s.r.toNat + s.j + 1) (afterRender s) := by
  have hb : (afterRender s).pass_bucket = s.pass_bucket := afterRender_pass_bucket (by simp [hs])
  refine ⟨rfl, ?_⟩
  rcases afterRender_scan_cases h hs with ⟨-, hst, hp, hrow, hj⟩ | ⟨hend, hj, ⟨-, hst, hp, hrow⟩ |
    ⟨hlast, hrow, ⟨-, hst, hp⟩ | ⟨hp10, hst, -⟩⟩⟩
  · exact .inr (.inr (.inl ⟨hst, by rw [hp, hrow, hj]; omega, hb⟩))
  · exact .inr (.inr (.inl ⟨hst, by rw [hp, hrow, hj, slotStart_next_row]; omega, hb⟩))
  · refine .inr (.inr (.inl ⟨hst, ?_, hb⟩))
    have hnext : slotStart s.cfg s.pass_bucket take (afterRender s).p 0 =
        scanStart s.cfg take + planesLength s.cfg s.pass_bucket (s.p.val + 1) := by
      rw [slotStart, hp, Nat.zero_mul, Nat.add_zero]
    rw [hrow, hj, Nat.add_assoc, hend, slotStart_last_row hlast]
    exact hnext.symm
  · refine .inr (.inr (.inr ⟨hst, ?_⟩))
    rw [Nat.add_assoc, hend, slotStart_last_row hlast, hp10, passLength_eq]

/-- Every clk_r edge leads to the next cycle of the pass, up to the next IDLE. -/
theorem inPass_step {n : Nat} {s : State} (h : s.Inv) (hn : n < passLength c b take) (hs : inPass c b take n s) :
    inPass c b take (n + 1) (afterRender s) := by
  obtain ⟨rfl, ⟨hst, rfl, rfl, rfl⟩ | ⟨hst, rfl, rfl, rfl⟩ | ⟨hst, rfl, rfl⟩ | ⟨-, hend⟩⟩ := hs
  · exact inPass_idle_step hst
  · exact inPass_copy_step h hst
  · exact inPass_scan_step h hst
  · omega

/-- A run of n clk_r edges from IDLE leads to cycle n of the pass, whatever clk_i does. -/
theorem feed_inPass {l : List Input} {s : State} (h : s.Inv) (hr : runsR s = true) (hs : s.st = .idle)
    (hl : noReset l = true) (hn : renderEdges l ≤ passLength s.cfg s.bucket_r (swapTaken s)) :
    ∃ t, feed l s = .next t ∧ t.Inv ∧ inPass s.cfg s.bucket_r (swapTaken s) (renderEdges l) t := by
  obtain ⟨t, ht, hi, -, hin⟩ := feed_cycles (P := inPass s.cfg s.bucket_r (swapTaken s)) inPass_edgeI inPass_step h hr
    hl (by rwa [Nat.zero_add]) (inPass_start hs)
  rw [Nat.zero_add] at hin
  exact ⟨t, ht, hi, hin⟩

theorem passLength_pos : 1 ≤ passLength c b take := by unfold passLength; omega

/-- In cycle 0 and at the end of the pass the state is IDLE, and in no cycle between. -/
theorem inPass_idle_iff {n : Nat} {s : State} (h : s.Inv) (hs : inPass c b take n s) :
    s.st = .idle ↔ n = 0 ∨ n = passLength c b take := by
  have hpos := passLength_pos (c := c) (b := b) (take := take)
  obtain ⟨rfl, ⟨hst, rfl, -, -⟩ | ⟨hst, rfl, rfl, rfl⟩ | ⟨hst, rfl, rfl⟩ | ⟨hst, rfl⟩⟩ := hs
  · simp [hst]
  · have hk := h.k_in_frame
    have hlong : 1 + s.cfg.N ≤ passLength s.cfg s.pass_bucket true := by unfold passLength; rw [if_pos rfl]; omega
    simp only [hst, reduceCtorEq, false_iff]
    omega
  · have hlt := slotStart_add_lt_passLength (take := take) h.row_in_range (h.j_in_slot hst)
    have hge := scanStart_pos (c := s.cfg) (take := take)
    have hle := scanStart_le_slotStart (c := s.cfg) (b := s.pass_bucket) (take := take) s.p s.r.toNat
    simp only [hst, reduceCtorEq, false_iff]
    omega
  · simp [hst]

/-- Rule R189's maximum: delays do not fall with the bucket (41_tables.md rule R157). -/
theorem passLength_le_longest (c : Config) (b : Bucket) (take : Bool) : passLength c b take ≤ passLength c 7 true := by
  have hb : b ≤ 7 := by revert b; decide
  have hd : ((List.finRange 11).map (delay c b)).sum ≤ ((List.finRange 11).map (delay c 7)).sum :=
    List.sum_le_sum fun p _ => delay_le_delay_of_bucket_le p hb
  have hN : (if take then c.N else 0) ≤ c.N := by split <;> omega
  exact Nat.add_le_add (Nat.add_le_add_left hN 1) (Nat.mul_le_mul_left _ (Nat.add_le_add_left hd _))

/-- Settles O44: the run passes through the cycles of the pass, and only its ends are IDLE. -/
theorem passLastsItsLength : Obligations.PassLastsItsLength := by
  refine ⟨fun s l h hr hs hl => ?_, passLength_le_longest⟩
  have hT : 1 + (if s.pend_r = true ∨ s.preq_s2 ≠ s.pub_ack then s.cfg.N else 0) + s.cfg.R *
      (11 * (2 * s.cfg.P * (s.cfg.W + 1)) + ((List.finRange 11).map fun p => delay s.cfg s.bucket_r p).sum) =
      passLength s.cfg s.bucket_r (swapTaken s) := by
    simp only [← swapTaken_iff, passLength]
  simp only [hT]
  rcases Nat.lt_or_ge (passLength s.cfg s.bucket_r (swapTaken s)) (renderEdges l) with hlong | hle
  · obtain ⟨t, ht⟩ := exists_feed_eq_next h hr hl
    exact ⟨t, ht, fun _ hlt => by omega, fun heq => by omega⟩
  · obtain ⟨t, ht, hi, hin⟩ := feed_inPass h hr hs hl hle
    have hidle := inPass_idle_iff hi hin
    exact ⟨t, ht, fun hpos hlt hst => by have := hidle.1 hst; omega, fun heq => hidle.2 (.inr heq)⟩

/-! ## Slots start on time (rule R187) -/

/-- Between SCAN's first cycle and the next IDLE the state is in SCAN. -/
theorem inPass_scan_of_ge {n : Nat} {s : State} (h : s.Inv) (hs : inPass c b take n s) (hge : scanStart c take ≤ n)
    (hlt : n < passLength c b take) : s.st = .scan := by
  obtain ⟨rfl, ⟨-, hn, -, -⟩ | ⟨-, hn, -, rfl⟩ | ⟨hst, -⟩ | ⟨-, hn⟩⟩ := hs
  · have hpos := scanStart_pos (c := s.cfg) (take := take)
    omega
  · have hk := h.k_in_frame
    rw [scanStart, if_pos rfl] at hge
    omega
  · exact hst
  · omega

theorem inPass_of_scan {n : Nat} {s : State} (hst : s.st = .scan) (hs : inPass c b take n s) :
    s.cfg = c ∧ n = slotStart c b take s.p s.r.toNat + s.j ∧ s.pass_bucket = b := by
  simpa [inPass, hst] using hs

/-- A cycle of a slot is spent in that slot. -/
theorem inPass_slot {p : Plane} {r i : Nat} {s : State} (h : s.Inv) (hr : r < c.R) (hi : i < slotLength c b p)
    (hs : inPass c b take (slotStart c b take p r + i) s) :
    s.st = .scan ∧ s.p = p ∧ s.r.toNat = r ∧ s.j = i ∧ s.pass_bucket = b := by
  have hstart := scanStart_le_slotStart (c := c) (b := b) (take := take) p r
  have hst := inPass_scan_of_ge h hs (by omega) (slotStart_add_lt_passLength hr hi)
  obtain ⟨rfl, hn, rfl⟩ := inPass_of_scan hst hs
  obtain ⟨rfl, rfl, rfl⟩ := slotStart_inj hr h.row_in_range hi (h.j_in_slot hst) hn
  exact ⟨hst, rfl, rfl, rfl, rfl⟩

/-- Settles O45: the cycle tells the slot, and the HOLD begins where OE_N falls. -/
theorem slotsStartOnTime : Obligations.SlotsStartOnTime := by
  intro s l p r i h hr hs hl hrow hi hn
  obtain ⟨t, ht, hinv, hin⟩ := feed_inPass h hr hs hl (hn ▸ (slotStart_add_lt_passLength hrow hi).le)
  rw [hn] at hin
  have hcfg : t.cfg = s.cfg := hin.1
  obtain ⟨hst, hp, hr', hj, hb⟩ := inPass_slot hinv hrow hi hin
  refine ⟨t, ht, hst, hp, hr', hj, hb, ?_⟩
  rw [pins_OE_N hst, hcfg, hj, decide_eq_false_iff_not, Nat.not_lt, holdStart_eq]

/-! ## Nothing else decides the pins (rule R195) -/

/-- What the SCAN reads and what the pins are made of (rule R172). -/
def scanView (s : State) : Config × RenderState × BitVec 20 × Plane × BitVec 5 × Nat × BitVec 5 × Bucket × Memory :=
  (s.cfg, s.st, s.k, s.p, s.r, s.j, s.addr_reg, s.pass_bucket, s.current)

theorem scanView_eq_iff {s t : State} : scanView s = scanView t ↔ s.cfg = t.cfg ∧ s.st = t.st ∧ s.k = t.k ∧ s.p = t.p ∧
    s.r = t.r ∧ s.j = t.j ∧ s.addr_reg = t.addr_reg ∧ s.pass_bucket = t.pass_bucket ∧ s.current = t.current := by
  simp only [scanView, Prod.mk.injEq]

theorem pins_eq_of_scanView {s t : State} (h : scanView s = scanView t) : pins s = pins t := by
  obtain ⟨hcfg, hst, -, hp, hrow, hj, haddr, -, hcurrent⟩ := scanView_eq_iff.1 h
  simp only [pins, idlePins, scanPins, hcfg, hst, hp, hrow, hj, haddr, hcurrent]

/-- A SCAN step reads nothing else. -/
theorem scanView_afterRender {s t : State} (hs : t.st = .scan) (h : scanView s = scanView t) :
    scanView (afterRender s) = scanView (afterRender t) := by
  obtain ⟨hcfg, hst, hk, hp, hrow, hj, haddr, hb, hcurrent⟩ := scanView_eq_iff.1 h
  have hs' : s.st = .scan := hst.trans hs
  have hplace : nextPlace s = nextPlace t := by
    rw [nextPlace_scan hs, nextPlace_scan hs', hcfg, hk, hp, hrow, hj, hb]
  have hkeep : (afterRender s).current = (afterRender t).current := by
    show nextCurrent s = nextCurrent t
    rw [nextCurrent_eq_current (by simp [hs']), nextCurrent_eq_current (by simp [hs]), hcurrent]
  refine scanView_eq_iff.2 ⟨hcfg, ?_, ?_, ?_, ?_, ?_, ?_, ?_, hkeep⟩
  · rw [afterRender_st, afterRender_st, hplace]
  · rw [afterRender_k, afterRender_k, hplace]
  · rw [afterRender_p, afterRender_p, hplace]
  · rw [afterRender_r, afterRender_r, hplace]
  · rw [afterRender_j, afterRender_j, hplace]
  · rw [afterRender_addr_reg_eq, afterRender_addr_reg_eq, hcfg, hst, hrow, hj, haddr]
  · rw [afterRender_pass_bucket (by simp [hs']), afterRender_pass_bucket (by simp [hs]), hb]

theorem scanView_edgeI {v : Bool} {w : Word} {s t : State} (ht : edgeI v w s = .next t) : scanView t = scanView s := by
  rw [edgeI_frame ht]; rfl

/-- Before SCAN begins the state is not in it. -/
theorem inPass_ne_scan_of_lt {n : Nat} {s : State} (hs : inPass c b take n s) (hlt : n < scanStart c take) :
    s.st ≠ .scan := by
  obtain ⟨rfl, ⟨hst, -⟩ | ⟨hst, -⟩ | ⟨-, rfl, -⟩ | ⟨hst, -⟩⟩ := hs
  · simp [hst]
  · simp [hst]
  · have := scanStart_le_slotStart (c := s.cfg) (b := b) (take := take) s.p s.r.toNat
    omega
  · simp [hst]

/-- IDLE and COPY hold ADDR, up to the first cycle of SCAN (rule R180). -/
theorem feed_before_scan {l : List Input} {s t : State} (h : s.Inv) (hr : runsR s = true) (hs : s.st = .idle)
    (hl : noReset l = true) (hn : renderEdges l ≤ scanStart s.cfg (swapTaken s)) (ht : feed l s = .next t) :
    t.Inv ∧ runsR t = true ∧ inPass s.cfg s.bucket_r (swapTaken s) (renderEdges l) t ∧ t.addr_reg = s.addr_reg := by
  have hlong : scanStart s.cfg (swapTaken s) ≤ passLength s.cfg s.bucket_r (swapTaken s) := by
    rw [passLength_eq]; omega
  obtain ⟨t', ht', hi, hrt, hin, haddr⟩ := feed_cycles
    (P := fun n u => inPass s.cfg s.bucket_r (swapTaken s) n u ∧ u.addr_reg = s.addr_reg)
    (fun hedge ⟨hin, haddr⟩ => ⟨inPass_edgeI hedge hin, by rw [edgeI_frame hedge]; exact haddr⟩)
    (fun hi hlt ⟨hin, haddr⟩ => ⟨inPass_step hi (by omega) hin,
      (afterRender_addr_reg (inPass_ne_scan_of_lt hin hlt)).trans haddr⟩)
    h hr hl (by rwa [Nat.zero_add]) ⟨inPass_start hs, rfl⟩
  obtain rfl : t' = t := Host.Outcome.next.inj (ht'.symm.trans ht)
  rw [Nat.zero_add] at hin
  exact ⟨hi, hrt, hin, haddr⟩

/-- From SCAN's first cycle on the run shows what DOM_R steps alone make of any state u0 that agrees with it there. -/
theorem feed_scanView {m : List Input} {u u0 t : State} (h : u.Inv) (hr : runsR u = true) (hm : noReset m = true)
    (hin : inPass c b take (scanStart c take) u) (hview : scanView u = scanView u0)
    (hn : scanStart c take + renderEdges m ≤ passLength c b take) (ht : feed m u = .next t) :
    scanView t = scanView (afterRender^[renderEdges m] u0) := by
  obtain ⟨t', ht', -, -, -, hview'⟩ := feed_cycles
    (P := fun n s => inPass c b take (scanStart c take + n) s ∧ scanView s = scanView (afterRender^[n] u0))
    (fun hedge ⟨hin, hview⟩ => ⟨inPass_edgeI hedge hin, (scanView_edgeI hedge).trans hview⟩)
    (fun hi hlt ⟨hin, hview⟩ => by
      have hst := inPass_scan_of_ge hi hin (Nat.le_add_right _ _) (Nat.add_lt_of_lt_sub' hlt)
      obtain ⟨-, hst0, -⟩ := scanView_eq_iff.1 hview
      refine ⟨inPass_step hi (Nat.add_lt_of_lt_sub' hlt) hin, ?_⟩
      rw [Function.iterate_succ_apply']
      exact scanView_afterRender (hst0 ▸ hst) hview)
    (N := passLength c b take - scanStart c take) (n := 0) h hr hm (by omega) ⟨hin, hview⟩
  obtain rfl : t' = t := Host.Outcome.next.inj (ht'.symm.trans ht)
  rwa [Nat.zero_add] at hview'

/-- SCAN begins with plane 0, row 0 and cycle 0. -/
theorem inPass_scanStart {s : State} (h : s.Inv) (hs : inPass c b take (scanStart c take) s) :
    s.st = .scan ∧ s.p = 0 ∧ s.r = 0 ∧ s.j = 0 ∧ s.pass_bucket = b := by
  have hpos : 0 < slotLength c b 0 := by have := slotLength_pos c b 0; have := shiftLength_pos c; omega
  rw [← slotStart_zero (b := b)] at hs
  obtain ⟨hst, hp, hrow, hj, hb⟩ := inPass_slot (i := 0) h c.R_pos hpos hs
  exact ⟨hst, hp, BitVec.eq_of_toNat_eq hrow, hj, hb⟩

/-- Settles O46: before SCAN ADDR is held, and where SCAN begins the two states agree in all that the SCAN reads. -/
theorem passIsDeterministic : Obligations.PassIsDeterministic := by
  intro s s' h h' hr hr' hs hs' hcfg hb htake haddr
  refine ⟨fun l t hl hlt ht => ?_, fun l l' m m' u u' t t' hlm hlm' hn hn' hu hu' hcurrent hm hlong ht ht' => ?_⟩
  · obtain ⟨-, -, hin, haddr'⟩ := feed_before_scan h hr hs hl hlt.le ht
    rw [pins_of_ne_scan (inPass_ne_scan_of_lt hin hlt), haddr']
  · rw [noReset_append, Bool.and_eq_true] at hlm hlm'
    obtain ⟨hl, hm0⟩ := hlm
    obtain ⟨hl', hm0'⟩ := hlm'
    obtain ⟨hi, hru, hin, hau⟩ := feed_before_scan h hr hs hl hn.le hu
    obtain ⟨hi', hru', hin', hau'⟩ := feed_before_scan h' hr' hs' hl' (by rw [hn', hcfg, htake]) hu'
    rw [hn] at hin
    rw [hn', ← hcfg, ← hb, ← htake] at hin'
    have hview : scanView u' = scanView u := by
      obtain ⟨hst, hp, hrow, hj, hpass⟩ := inPass_scanStart hi hin
      obtain ⟨hst', hp', hrow', hj', hpass'⟩ := inPass_scanStart hi' hin'
      refine scanView_eq_iff.2 ⟨hin'.1.trans hin.1.symm, hst'.trans hst.symm, ?_, hp'.trans hp.symm,
        hrow'.trans hrow.symm, hj'.trans hj.symm, ?_, hpass'.trans hpass.symm, hcurrent.symm⟩
      · rw [hi.k_zero (.inr hst), hi'.k_zero (.inr hst')]
      · rw [hau, hau', haddr]
    refine pins_eq_of_scanView ?_
    rw [feed_scanView hi hru hm0 hin rfl hlong ht, feed_scanView hi' hru' hm0' hin' hview (hm ▸ hlong) ht', hm]

end Sys2Proof.Machine
end

section
/-! SUPPORT. The obligations of 42_scan.md, third part: what the panel shows. The panel is the observer of rule R190
(notes/assumptions/9.md): the words in its latches during a HOLD, the lit time of an LED in a pass (rule R191) and the
brightness order (rule R192). -/

namespace Sys2Proof.Machine

/-! ## Runs with the panel watching, cycle by cycle -/

/-- What every clk_i edge keeps, and every clk_r edge takes from one cycle to the next up to cycle N, holds after a watched
run that ends by cycle N. -/
theorem watch_cycles {y x : Nat} {ch : Channel} {P : Nat → State → Panel → Nat → Prop} {N : Nat}
    (hi : ∀ {n v w s t q lit}, edgeI v w s = .next t → P n s q lit → P n t q lit)
    (hr : ∀ {n s q lit}, s.Inv → n < N → P n s q lit → P (n + 1) (afterRender s) (q.observe s.cfg (pins s))
      (lit + ((q.observe s.cfg (pins s)).lit s.cfg (pins s) y x ch).toNat))
    {l : List Input} {n : Nat} {s : State} {q : Panel} {lit : Nat} (h : s.Inv) (hrun : runsR s = true)
    (hl : noReset l = true) (hn : n + renderEdges l ≤ N) (hs : P n s q lit) :
    ∃ t q' lit', watch y x ch l s q lit = some (t, q', lit') ∧ t.Inv ∧ P (n + renderEdges l) t q' lit' := by
  induction l generalizing n s q lit with
  | nil => exact ⟨s, q, lit, rfl, h, hs⟩
  | cons e l ih =>
    obtain ⟨he, hl⟩ := (noReset_cons e l).1 hl
    rcases event_noReset h hrun he with ⟨v, w, u, rfl, hedge, hu, hinv, hrun'⟩ | ⟨rfl, hu, hinv, hrun'⟩
    · rw [renderEdges_clk_i] at hn ⊢
      obtain ⟨t, q', lit', ht, hrest⟩ := ih hinv hrun' hl hn (hi hedge hs)
      refine ⟨t, q', lit', ?_, hrest⟩
      unfold watch
      simpa [hu] using ht
    · rw [renderEdges_clk_r, Nat.add_comm _ 1, ← Nat.add_assoc] at hn ⊢
      obtain ⟨t, q', lit', ht, hrest⟩ := ih hinv hrun' hl hn (hr h (by omega) hs)
      refine ⟨t, q', lit', ?_, hrest⟩
      unfold watch
      simpa [hu] using ht

/-! ## The panel in the cycles of a slot (rule R190) -/

variable {c : Config}

/-- The first n words of a slot as they lie in the chain, the last one shifted first. -/
def slotWords (c : Config) (m : Memory) (p : Plane) (r n : Nat) : List (BitVec 6) :=
  ((List.range n).map (colourWord c m p r)).reverse

theorem slotWords_succ (m : Memory) (p : Plane) (r n : Nat) :
    slotWords c m p r (n + 1) = colourWord c m p r n :: slotWords c m p r n := by
  simp [slotWords, List.range_succ]

/-- Column x of W is the cell W − 1 − x (rule R179). -/
theorem slotWords_getD (m : Memory) (p : Plane) (r : Nat) {n x : Nat} (hx : x < n) :
    (slotWords c m p r n).getD (n - 1 - x) 0 = colourWord c m p r x := by
  have hlen : n - 1 - (n - 1 - x) = x := by omega
  rw [slotWords, List.getD_eq_getElem _ _ (by simp; omega), List.getElem_reverse, List.getElem_map, List.getElem_range]
  simp only [List.length_map, List.length_range, hlen]

/-- What the panel holds before cycle j of slot (p, r), whatever it held before the slot: the level PCLK had, the words of
the slot that have been shifted, and after the first cycle of the LAT phase all W of them in the latches. -/
def panelAt (c : Config) (m : Memory) (p : Plane) (r j : Nat) (q : Panel) : Prop :=
  (j ≠ 0 → q.pclk = shiftClock c (j - 1)) ∧
    q.chain.take (shiftedWords c j) = slotWords c m p r (shiftedWords c j) ∧
    (shiftLength c + c.P < j → q.latches.take c.W = slotWords c m p r c.W)

/-- Nothing is known of the panel where a slot begins. -/
theorem panelAt_zero (m : Memory) (p : Plane) (r : Nat) (q : Panel) : panelAt c m p r 0 q :=
  ⟨fun h => absurd rfl h, by rw [shiftedWords_zero]; rfl, fun h => absurd h (Nat.not_lt_zero _)⟩

/-- The panel sees the rising edges of the slot: PCLK is low in cycle 0. -/
theorem rising_of_panelAt {m : Memory} {p : Plane} {r j : Nat} {q : Panel} (hq : panelAt c m p r j q) :
    (shiftClock c j && !q.pclk) = clockRises c j := by
  obtain ⟨hclk, -⟩ := hq
  rw [clockRises_eq]
  by_cases hj : j = 0
  · have hP := c.P_pos
    have hlow : shiftClock c 0 = false := decide_eq_false fun h => by rw [Nat.zero_mod] at h; omega
    rw [hj, hlow, Bool.false_and, Bool.false_and]
  · rw [hclk hj, beq_eq_false_iff_ne.2 hj, Bool.false_or]
    cases shiftClock c (j - 1) <;> rfl

/-- A rising edge shifts the word of the next column in. -/
theorem chain_step {m : Memory} {p : Plane} {r j : Nat} {q : Panel} {rgb : BitVec 6} (hq : panelAt c m p r j q)
    (hrgb : j < shiftLength c → rgb = colourWord c m p r (j / (2 * c.P))) :
    (if clockRises c j then (rgb :: q.chain).take c.W else q.chain).take (shiftedWords c (j + 1)) =
      slotWords c m p r (shiftedWords c (j + 1)) := by
  obtain ⟨-, hchain, -⟩ := hq
  rw [shiftedWords_succ]
  cases hrise : clockRises c j with
  | false => simpa using hchain
  | true =>
    obtain ⟨hcol, hlt⟩ := shiftedWords_of_clockRises hrise
    obtain ⟨hj, -⟩ := (clockRises_iff c j).1 hrise
    rw [if_pos rfl, Bool.toNat_true, List.take_take, min_eq_left hlt, List.take_succ_cons, hchain, slotWords_succ,
      hrgb hj, hcol]

/-- One cycle of a slot on the panel. -/
theorem panelAt_observe {s : State} {q : Panel} (hs : s.st = .scan)
    (hq : panelAt s.cfg s.current s.p s.r.toNat s.j q) :
    panelAt s.cfg s.current s.p s.r.toNat (s.j + 1) (q.observe s.cfg (pins s)) := by
  have hchain := chain_step (rgb := (pins s).RGB) hq fun hj => by rw [pins_RGB hs, if_pos hj]
  have hobs : q.observe s.cfg (pins s) =
      ⟨if clockRises s.cfg s.j then ((pins s).RGB :: q.chain).take s.cfg.W else q.chain,
        if (pins s).LAT then (if clockRises s.cfg s.j then ((pins s).RGB :: q.chain).take s.cfg.W else q.chain)
          else q.latches, shiftClock s.cfg s.j⟩ := by
    rw [Panel.observe, pins_PCLK hs, rising_of_panelAt hq]
  rw [hobs]
  obtain ⟨-, -, hlatches⟩ := hq
  refine ⟨fun _ => rfl, hchain, fun hj => ?_⟩
  simp only [pins_LAT hs, decide_eq_true_eq]
  by_cases hlat : shiftLength s.cfg + s.cfg.P ≤ s.j ∧ s.j < shiftLength s.cfg + 2 * s.cfg.P
  · rw [if_pos hlat]
    rwa [shiftedWords_of_ge (by omega)] at hchain
  · rw [if_neg hlat]
    have hP := s.cfg.P_pos
    exact hlatches (by omega)

/-- During the HOLD the latches hold the slot's words (rule R190). -/
theorem word_of_panelAt {m : Memory} {p : Plane} {r j x : Nat} {q : Panel} (hq : panelAt c m p r j q)
    (hj : shiftLength c + c.P < j) (hx : x < c.W) : q.word c x = colourWord c m p r x := by
  obtain ⟨-, -, hlatches⟩ := hq
  have hlt : c.W - 1 - x < c.W := by omega
  rw [Panel.word, ← slotWords_getD m p r hx, ← hlatches hj, List.getD_eq_getElem?_getD, List.getD_eq_getElem?_getD,
    List.getElem?_take_of_lt hlt]

/-- The words of `panelAt` are those of the state's own slot, in every cycle of a run. -/
def panelInSlot (s : State) (q : Panel) : Prop := panelAt s.cfg s.current s.p s.r.toNat s.j q

theorem panelInSlot_of_j_zero {s : State} (hj : s.j = 0) (q : Panel) : panelInSlot s q := by
  unfold panelInSlot; rw [hj]; exact panelAt_zero ..

theorem afterRender_current_of_scan {s : State} (hs : s.st = .scan) : (afterRender s).current = s.current :=
  nextCurrent_eq_current (by simp [hs])

/-- Outside SCAN the slot cycle is 0, and the step that begins the SCAN leaves it so (10_state.md rule R42). -/
theorem afterRender_j_of_ne_scan {s : State} (h : s.Inv) (hs : s.st ≠ .scan) : (afterRender s).j = 0 := by
  obtain ⟨-, -, hj⟩ := h.position_zero hs
  rw [afterRender_j]
  cases hst : s.st with
  | init => rw [nextPlace_init hst]; split <;> exact hj
  | idle =>
    rw [nextPlace_idle hst]
    split
    · exact hj
    · rfl
  | copy =>
    rw [nextPlace_copy hst]
    split
    · rfl
    · exact hj
  | scan => exact absurd hst hs

/-- A slot that begins asks nothing of the panel, and a slot that goes on keeps its words. -/
theorem panelInSlot_step {s : State} {q : Panel} (h : s.Inv) (hq : panelInSlot s q) :
    panelInSlot (afterRender s) (q.observe s.cfg (pins s)) := by
  by_cases hs : s.st = .scan
  · rcases afterRender_scan_cases h hs with ⟨-, -, hp, hrow, hj⟩ | ⟨-, hj, -⟩
    · unfold panelInSlot
      rw [afterRender_cfg, afterRender_current_of_scan hs, hp, hrow, hj]
      exact panelAt_observe hs hq
    · exact panelInSlot_of_j_zero hj _
  · exact panelInSlot_of_j_zero (afterRender_j_of_ne_scan h hs) _

theorem panelInSlot_edgeI {v : Bool} {w : Word} {s t : State} {q : Panel} (ht : edgeI v w s = .next t)
    (hq : panelInSlot s q) : panelInSlot t q := by
  rw [edgeI_frame ht]; exact hq

/-- t is in cycle j of the slot of s. -/
def sameSlot (s : State) (j : Nat) (t : State) : Prop :=
  t.st = .scan ∧ t.j = j ∧ t.cfg = s.cfg ∧ t.pass_bucket = s.pass_bucket ∧ t.p = s.p ∧ t.r = s.r ∧ t.current = s.current

theorem sameSlot_edgeI {j : Nat} {v : Bool} {w : Word} {s t u : State} (ht : edgeI v w t = .next u)
    (h : sameSlot s j t) : sameSlot s j u := by
  rw [edgeI_frame ht]; exact h

theorem sameSlot_step {j : Nat} {s t : State} (hi : t.Inv) (hj : j < slotLength s.cfg s.pass_bucket s.p - 1)
    (h : sameSlot s j t) : sameSlot s (j + 1) (afterRender t) := by
  obtain ⟨hst, rfl, hcfg, hb, hp, hrow, hcurrent⟩ := h
  rw [← hcfg, ← hb, ← hp] at hj
  rcases afterRender_scan_cases hi hst with ⟨-, hst', hp', hrow', hj'⟩ | ⟨hend, -⟩
  · exact ⟨hst', hj', hcfg, (afterRender_pass_bucket (by simp [hst])).trans hb, hp'.trans hp, hrow'.trans hrow,
      (afterRender_current_of_scan hst).trans hcurrent⟩
  · omega

/-- Settles O47: the run stays in the slot, all of whose words are latched before its HOLD. -/
theorem holdShowsTheSlotsWords : Obligations.HoldShowsTheSlotsWords := by
  intro s q l y x ch h hr hs hj hl hhold hslot
  obtain ⟨t, q', n, hw, hi, hsame, hq⟩ := watch_cycles (y := y) (x := x) (ch := ch)
    (P := fun n t q _ => sameSlot s n t ∧ panelInSlot t q)
    (fun hedge ⟨hsame, hq⟩ => ⟨sameSlot_edgeI hedge hsame, panelInSlot_edgeI hedge hq⟩)
    (fun hi hn ⟨hsame, hq⟩ => ⟨sameSlot_step hi hn hsame, panelInSlot_step hi hq⟩)
    (n := 0) (q := q) (lit := 0) h hr hl (by omega) ⟨⟨hs, hj, rfl, rfl, rfl, rfl, rfl⟩, panelInSlot_of_j_zero hj q⟩
  rw [Nat.zero_add] at hsame
  obtain ⟨hst, hjt, hcfg, -, hp, hrow, hcurrent⟩ := hsame
  have hP := s.cfg.P_pos
  rw [holdStart_eq] at hhold
  refine ⟨t, q', n, hw, ?_, ?_, fun col hcol => ?_⟩
  · rw [pins_OE_N hst, hcfg, hjt]
    exact decide_eq_false (by omega)
  · rw [pins_ADDR, hi.addr_holds_row hst (by rw [hcfg, hjt]; omega), hrow]
  · unfold panelInSlot at hq
    rw [hcfg, hcurrent, hp, hrow, hjt] at hq
    exact word_of_panelAt hq (by omega) hcol

/-! ## The lit cycles of one LED (rule R191) -/

/-- Line ch of a word is the top pixel's bit. -/
theorem colourWord_top (m : Memory) (p : Plane) (r x : Nat) (ch : Channel) :
    (colourWord c m p r x).getLsbD ch.index.val = pixelBit c m p r x ch := by
  simp only [colourWord, append_ofBool]
  cases ch <;> simp [Channel.index]

/-- Line 3 + ch of a word is the bottom pixel's bit. -/
theorem colourWord_bottom (m : Memory) (p : Plane) (r x : Nat) (ch : Channel) :
    (colourWord c m p r x).getLsbD (3 + ch.index.val) = pixelBit c m p (r + c.R) x ch := by
  simp only [colourWord, append_ofBool]
  cases ch <;> simp [Channel.index]

/-- The scan row of frame row y is the row that y is in the half it lies in (rule R190). -/
theorem scan_row_iff {y r : Nat} (hy : y < c.H) (hr : r < c.R) : y % c.R = r ↔ y = r ∨ y = r + c.R := by
  have hH := c.two_R
  rcases Nat.lt_or_ge y c.R with hlt | hge
  · rw [Nat.mod_eq_of_lt hlt]
    omega
  · rw [Nat.mod_eq_sub_mod hge, Nat.mod_eq_of_lt (by omega)]
    omega

/-- An LED is lit in a cycle of SCAN if the slot is of its row and holds, and its plane bit is set. -/
theorem lit_of_panelInSlot {s : State} {q : Panel} {y x : Nat} (h : s.Inv) (hs : s.st = .scan) (hq : panelInSlot s q)
    (hy : y < s.cfg.H) (hx : x < s.cfg.W) (ch : Channel) : (q.observe s.cfg (pins s)).lit s.cfg (pins s) y x ch =
      (decide (y % s.cfg.R = s.r.toNat ∧ shiftLength s.cfg + 2 * s.cfg.P ≤ s.j) &&
        pixelBit s.cfg s.current s.p y x ch) := by
  have hP := s.cfg.P_pos
  have hR : s.cfg.R ≠ 0 := Nat.ne_of_gt s.cfg.R_pos
  have hrow := scan_row_iff hy h.row_in_range
  by_cases hhold : shiftLength s.cfg + 2 * s.cfg.P ≤ s.j
  · have hword := word_of_panelAt (panelAt_observe hs hq) (by omega) hx
    have haddr := h.addr_holds_row hs (by omega)
    rw [Panel.lit, pins_OE_N hs, pins_ADDR, haddr, hword, colourWord_top, colourWord_bottom,
      decide_eq_false (Nat.not_lt.2 hhold), Bool.not_false, Bool.true_and]
    simp only [hrow, hhold, and_true]
    by_cases htop : y = s.r.toNat
    · simp [htop, hR]
    · by_cases hbot : y = s.r.toNat + s.cfg.R
      · simp [hbot, hR]
      · simp [htop, hbot]
  · rw [Panel.lit, pins_OE_N hs, decide_eq_true (Nat.not_le.1 hhold)]
    simp [hhold]

/-- In the dark no LED is lit. -/
theorem lit_of_ne_scan {s : State} (hs : s.st ≠ .scan) (q : Panel) (y x : Nat) (ch : Channel) :
    q.lit s.cfg (pins s) y x ch = false := by
  rw [Panel.lit, pins_of_ne_scan hs]; rfl

/-- The HOLD cycles of a row's slot in a plane of delay d that lie before cycle j of row r's slot. -/
def slotLit (c : Config) (row d r j : Nat) : Nat :=
  if row < r then d else if row = r then j - (shiftLength c + 2 * c.P) else 0

theorem slotLit_zero (row d : Nat) : slotLit c row d 0 0 = 0 := by unfold slotLit; split_ifs <;> omega

theorem slotLit_all {row : Nat} (hrow : row < c.R) (d : Nat) : slotLit c row d c.R 0 = d := if_pos hrow

theorem slotLit_succ (row d r j : Nat) : slotLit c row d r (j + 1) =
    slotLit c row d r j + if row = r ∧ shiftLength c + 2 * c.P ≤ j then 1 else 0 := by
  unfold slotLit; split_ifs <;> omega

/-- A slot has d HOLD cycles (rule R182). -/
theorem slotLit_slot_end {row d r j : Nat} (hj : j + 1 = shiftLength c + 2 * c.P + d) : slotLit c row d (r + 1) 0 =
    slotLit c row d r j + if row = r ∧ shiftLength c + 2 * c.P ≤ j then 1 else 0 := by
  have hP := c.P_pos
  unfold slotLit; split_ifs <;> omega

/-- The cycles for which plane p lights the LED in a pass. -/
def planeLit (c : Config) (b : Bucket) (m : Memory) (y x : Nat) (ch : Channel) (p : Plane) : Nat :=
  (pixelBit c m p y x ch).toNat * delay c b p

/-- The cycles of a pass before cycle n in which the LED is lit, s being the state in cycle n. -/
def litBefore (c : Config) (b : Bucket) (y x : Nat) (ch : Channel) (n : Nat) (s : State) : Nat :=
  match s.st with
  | .init => 0
  | .idle => if n = 0 then 0 else planeSum (planeLit c b s.current y x ch) 11
  | .copy => 0
  | .scan => planeSum (planeLit c b s.current y x ch) s.p.val +
      (pixelBit c s.current s.p y x ch).toNat * slotLit c (y % c.R) (delay c b s.p) s.r.toNat s.j

theorem litBefore_scan {b : Bucket} {y x n : Nat} {ch : Channel} {s : State} (hs : s.st = .scan) :
    litBefore c b y x ch n s = planeSum (planeLit c b s.current y x ch) s.p.val +
      (pixelBit c s.current s.p y x ch).toNat * slotLit c (y % c.R) (delay c b s.p) s.r.toNat s.j := by
  unfold litBefore; rw [hs]

theorem litBefore_idle {b : Bucket} {y x n : Nat} {ch : Channel} {s : State} (hs : s.st = .idle) (hn : n ≠ 0) :
    litBefore c b y x ch n s = planeSum (planeLit c b s.current y x ch) 11 := by
  unfold litBefore; rw [hs]; exact if_neg hn

theorem litBefore_start {b : Bucket} {y x : Nat} {ch : Channel} {s : State} (hs : s.st = .idle) :
    litBefore c b y x ch 0 s = 0 := by
  unfold litBefore; rw [hs]; rfl

theorem litBefore_edgeI {b : Bucket} {y x n : Nat} {ch : Channel} {v : Bool} {w : Word} {s t : State}
    (ht : edgeI v w s = .next t) : litBefore c b y x ch n t = litBefore c b y x ch n s := by
  rw [edgeI_frame ht]; rfl

/-- Before the SCAN no LED has been lit. -/
theorem litBefore_afterRender_of_dark {b : Bucket} {y x n : Nat} {ch : Channel} {s : State}
    (hs : s.st = .idle ∨ s.st = .copy) : litBefore c b y x ch n (afterRender s) = 0 := by
  have hplace : (afterRender s).st = .copy ∨
      ((afterRender s).st = .scan ∧ (afterRender s).p = 0 ∧ (afterRender s).r = 0 ∧ (afterRender s).j = 0) := by
    simp only [afterRender_st, afterRender_p, afterRender_r, afterRender_j]
    rcases hs with hs | hs
    · rw [nextPlace_idle hs]
      split
      · exact .inl rfl
      · exact .inr ⟨rfl, rfl, rfl, rfl⟩
    · rw [nextPlace_copy hs]
      split
      · exact .inr ⟨rfl, rfl, rfl, rfl⟩
      · exact .inl rfl
  rcases hplace with hst | ⟨hst, hp, hrow, hj⟩
  · unfold litBefore; rw [hst]
  · rw [litBefore_scan hst, hp, hrow, hj, show (0 : BitVec 5).toNat = 0 from rfl, slotLit_zero, Nat.mul_zero]
    exact planeSum_zero (planeLit c b (afterRender s).current y x ch)

/-- A SCAN cycle adds itself if the LED is lit in it: the slots of the LED's row add up to the plane's delay. -/
theorem litBefore_afterRender_of_scan {y x n : Nat} {ch : Channel} {s : State} {q : Panel} (h : s.Inv)
    (hs : s.st = .scan) (hq : panelInSlot s q) (hy : y < s.cfg.H) (hx : x < s.cfg.W) :
    litBefore s.cfg s.pass_bucket y x ch (n + 1) (afterRender s) = litBefore s.cfg s.pass_bucket y x ch n s +
      ((q.observe s.cfg (pins s)).lit s.cfg (pins s) y x ch).toNat := by
  have hcurrent := afterRender_current_of_scan hs
  have hrow : y % s.cfg.R < s.cfg.R := Nat.mod_lt _ s.cfg.R_pos
  have hcycle : ((q.observe s.cfg (pins s)).lit s.cfg (pins s) y x ch).toNat =
      (pixelBit s.cfg s.current s.p y x ch).toNat *
      if y % s.cfg.R = s.r.toNat ∧ shiftLength s.cfg + 2 * s.cfg.P ≤ s.j then 1 else 0 := by
    rw [lit_of_panelInSlot h hs hq hy hx]
    split_ifs with hif <;> simp [hif]
  rw [hcycle, litBefore_scan hs, Nat.add_assoc, ← Nat.mul_add]
  rcases afterRender_scan_cases h hs with ⟨-, hst, hp, hr, hj⟩ | ⟨hend, hj, hplace⟩
  · rw [litBefore_scan hst, hcurrent, hp, hr, hj, slotLit_succ]
  rw [← slotLit_slot_end (hend.trans (slotLength_eq ..))]
  rcases hplace with ⟨-, hst, hp, hr⟩ | ⟨hlast, hr, hplane⟩
  · rw [litBefore_scan hst, hcurrent, hp, hr, hj]
  have hdone : planeSum (planeLit s.cfg s.pass_bucket s.current y x ch) (s.p.val + 1) =
      planeSum (planeLit s.cfg s.pass_bucket s.current y x ch) s.p.val + (pixelBit s.cfg s.current s.p y x ch).toNat *
        slotLit s.cfg (y % s.cfg.R) (delay s.cfg s.pass_bucket s.p) (s.r.toNat + 1) 0 := by
    rw [hlast, slotLit_all hrow, planeSum_succ]; rfl
  rw [← hdone]
  rcases hplane with ⟨-, hst, hp⟩ | ⟨hp10, hst, -⟩
  · rw [litBefore_scan hst, hcurrent, hp, hr, hj, show (0 : BitVec 5).toNat = 0 from rfl, slotLit_zero, Nat.mul_zero,
      Nat.add_zero]
  · rw [litBefore_idle hst (Nat.succ_ne_zero n), hcurrent, hp10]

/-- Every clk_r edge of a pass counts its cycle. -/
theorem litBefore_step {b : Bucket} {take : Bool} {y x n : Nat} {ch : Channel} {s : State} {q : Panel} (h : s.Inv)
    (hn : n < passLength c b take) (hin : inPass c b take n s) (hq : panelInSlot s q) (hy : y < c.H) (hx : x < c.W) :
    litBefore c b y x ch (n + 1) (afterRender s) = litBefore c b y x ch n s +
      ((q.observe c (pins s)).lit c (pins s) y x ch).toNat := by
  obtain ⟨rfl, ⟨hst, rfl, -, -⟩ | ⟨hst, -, -, -⟩ | ⟨hst, -, rfl⟩ | ⟨-, hend⟩⟩ := hin
  · rw [litBefore_afterRender_of_dark (.inl hst), lit_of_ne_scan (by simp [hst]), litBefore_start hst]; rfl
  · rw [litBefore_afterRender_of_dark (.inr hst), lit_of_ne_scan (by simp [hst]), litBefore, hst]; rfl
  · exact litBefore_afterRender_of_scan h hst hq hy hx
  · omega

/-- Settles O48: the count is that of the cycles before each cycle of the pass, and the pass ends with all planes lit. -/
theorem litTimePerPass : Obligations.LitTimePerPass := by
  intro s q l y x ch h hr hs hl hy hx hn
  obtain ⟨-, -, hj⟩ := h.position_zero (by simp [hs])
  obtain ⟨t, q', n, hw, hi, hin, -, hlit⟩ := watch_cycles (y := y) (x := x) (ch := ch)
    (P := fun n t q lit => inPass s.cfg s.bucket_r (swapTaken s) n t ∧ panelInSlot t q ∧
      lit = litBefore s.cfg s.bucket_r y x ch n t)
    (fun hedge ⟨hin, hq, hlit⟩ => ⟨inPass_edgeI hedge hin, panelInSlot_edgeI hedge hq,
      hlit.trans (litBefore_edgeI hedge).symm⟩)
    (fun hi hlt ⟨hin, hq, hlit⟩ => ⟨inPass_step hi hlt hin, panelInSlot_step hi hq, by
      rw [litBefore_step hi hlt hin hq hy hx, hlit, hin.1]⟩)
    (n := 0) (q := q) (lit := 0) h hr hl (by omega)
    ⟨inPass_start hs, panelInSlot_of_j_zero hj q, (litBefore_start hs).symm⟩
  rw [Nat.zero_add, hn] at hin hlit
  have hpos := passLength_pos (c := s.cfg) (b := s.bucket_r) (take := swapTaken s)
  refine ⟨t, q', n, hw, ?_⟩
  rw [hlit, litBefore_idle ((inPass_idle_iff hi hin).2 (.inr rfl)) (by omega), planeSum_all]
  refine congrArg (fun f => ((List.finRange 11).map f).sum) (funext fun p => ?_)
  rw [planeLit, pixelBit_eq, frameOffset]

/-! ## The brightness order (rule R192) -/

theorem gammaBit_eq (ch : Channel) (v : Byte) (p : Plane) : gammaBit c ch v p = (gamma c ch v).toNat.testBit p.val := by
  rw [gammaBit, BitVec.getLsbD_ushiftRight, Nat.add_zero, BitVec.testBit_toNat]

theorem litTime_le_litTime_of_bucket_le (ch : Channel) (v : Byte) {b b' : Bucket} (h : b ≤ b') :
    litTime c ch v b ≤ litTime c ch v b' :=
  List.sum_le_sum fun p _ => Nat.mul_le_mul_left _ (delay_le_delay_of_bucket_le p h)

/-- The lit time that the planes below n give for the number g. -/
def lowPlanesLit (d : Plane → Nat) (g n : Nat) : Nat := planeSum (fun p => (g.testBit p.val).toNat * d p) n

theorem lowPlanesLit_le (d : Plane → Nat) (g n : Nat) : lowPlanesLit d g n ≤ planeSum d n := by
  rw [lowPlanesLit, planeSum_eq_sum, planeSum_eq_sum]
  refine Finset.sum_le_sum fun p _ => ?_
  cases g.testBit p.val <;> simp

/-- Where each plane outweighs the sum of those below it, the order of the numbers is that of their lit times. By induction
on the planes: the highest plane in which the numbers differ decides both. -/
theorem lowPlanesLit_mono {d : Plane → Nat} (hd : ∀ p : Plane, planeSum d p.val ≤ d p) {g g' : Nat} {n : Nat}
    (hn : n ≤ 11) (h : g % 2 ^ n ≤ g' % 2 ^ n) : lowPlanesLit d g n ≤ lowPlanesLit d g' n := by
  induction n with
  | zero => simp [lowPlanesLit]
  | succ n ih =>
    have hplane := fun g => planeSum_succ (fun p => (Nat.testBit g p.val).toNat * d p) ⟨n, hn⟩
    have hlow : ∀ g, lowPlanesLit d g (n + 1) = lowPlanesLit d g n + (g.testBit n).toNat * d ⟨n, hn⟩ := hplane
    have hmod : ∀ g : Nat, g % 2 ^ (n + 1) = g % 2 ^ n + 2 ^ n * (g.testBit n).toNat := fun g => by
      rw [Nat.mod_pow_succ, Nat.toNat_testBit]
    rw [hmod, hmod] at h
    rw [hlow, hlow]
    by_cases hbit : g.testBit n = g'.testBit n
    · rw [hbit] at h ⊢
      exact Nat.add_le_add_right (ih (by omega) (Nat.le_of_add_le_add_right h)) _
    · obtain ⟨hclear, hset⟩ : g.testBit n = false ∧ g'.testBit n = true := by
        cases hset : g'.testBit n with
        | true => exact ⟨Bool.eq_false_iff.2 fun hg => hbit (hg.trans hset.symm), rfl⟩
        | false =>
          have hg : g.testBit n = true := Bool.eq_true_of_not_eq_false fun hg => hbit (hg.trans hset.symm)
          have hlt' := Nat.mod_lt g' (Nat.two_pow_pos n)
          rw [hg, hset, Bool.toNat_true, Bool.toNat_false] at h
          omega
      rw [hclear, hset, Bool.toNat_false, Bool.toNat_true, Nat.zero_mul, Nat.one_mul, Nat.add_zero]
      exact (lowPlanesLit_le d g n).trans ((hd ⟨n, hn⟩).trans (Nat.le_add_left _ _))

theorem litTime_eq (ch : Channel) (v : Byte) (b : Bucket) :
    litTime c ch v b = lowPlanesLit (delay c b) (gamma c ch v).toNat 11 := by
  simp only [lowPlanesLit, planeSum_all, litTime, gammaBit_eq]

theorem litTime_le_litTime_of_value_le (ch : Channel) (b : Bucket)
    (hd : ∀ p : Plane, planeSum (delay c b) p.val ≤ delay c b p) {v v' : Byte} (h : v ≤ v') :
    litTime c ch v b ≤ litTime c ch v' b := by
  rw [litTime_eq, litTime_eq]
  refine lowPlanesLit_mono hd le_rfl ?_
  rw [Nat.mod_eq_of_lt (gamma c ch v).isLt, Nat.mod_eq_of_lt (gamma c ch v').isLt]
  exact gamma_le_gamma ch h

/-- A legal configuration with DELAY_LUT[b][p] = 1 for every bucket and plane, and each value its own gamma value
(95_test_vectors.md V49). -/
def flatParams : Params where
  W := 1
  H := 2
  P := 1
  DELAY_W := 1
  GAMMA_LUT := tabulate 3 fun _ => tabulate 256 fun v => BitVec.ofNat 11 v
  DELAY_LUT := tabulate 8 fun _ => tabulate 11 fun _ => 1
  RESET_BUCKET := 0
  F_R := 1
  F_I := 1
  F_MIN := 1

theorem flatParams_wf : flatParams.wf = true := by
  refine (Params.wf_iff _).2 ⟨by decide, rfl, by decide, by decide, by decide, ?_, ?_, ?_, ?_, ?_, ?_⟩
  · exact decide_eq_true (by show (0 : Rat) < 1 ∧ (0 : Rat) < 1 ∧ (0 : Rat) < 1; norm_num)
  · refine decide_eq_true fun ch v => ?_
    simp only [flatParams, tabulate_getElem, BitVec.toNat_ofNat]
    omega
  all_goals refine decide_eq_true ?_; simp [flatParams]

def flat : Config := ⟨flatParams, flatParams_wf⟩

/-- In the flat configuration an LED is lit for as many cycles as its value has bits set. -/
theorem litTime_flat (v : Byte) : litTime flat .red v 0 =
    ((List.finRange 11).map fun p => ((BitVec.ofNat 11 v.toNat).toNat.testBit p.val).toNat * 1).sum := by
  have hgamma : gamma flat .red v = BitVec.ofNat 11 v.toNat := by simp [gamma, flat, flatParams]
  have hdelay : ∀ p : Plane, delay flat 0 p = 1 := fun p => by simp [delay, flat, flatParams]
  simp only [litTime, gammaBit_eq, hgamma, hdelay]

/-- Settles O49: the value 4 has one bit set and the value 3 has two. -/
theorem brighterNeverLightsLess : Obligations.BrighterNeverLightsLess := by
  refine ⟨fun c ch v b b' => litTime_le_litTime_of_bucket_le ch v, fun c ch hd v v' b =>
    litTime_le_litTime_of_value_le ch b (hd b), flat, .red, 3, 4, 0, by decide, ?_⟩
  rw [litTime_flat, litTime_flat]
  decide

end Sys2Proof.Machine
end

section
/-! SUPPORT. The obligations of 43_commands.md: what each command leaves (rules R210 to R218, R224, R232 and R234), the
DOM_I step with its launches (rules R211, R220, R226 and R236 to R238), the frames that a stream of commands writes
(rules R216 and R217), and how long a publish and a bucket take to cross (rules R222 and R230). -/

namespace Sys2Proof.Machine

/-! ## WRITE_BYTE (rules R212 to R214) -/

/-- The state after a WRITE_BYTE: a dropped byte is counted, and any other is stored at the cursor. -/
def afterWriteByte (val : Byte) (s : State) : State :=
  if s.discard ≠ 0 then { s with discard := s.discard - 1 }
  else if s.cursor.toNat = s.cfg.N - 1 then
    { s with next := s.next.write s.cursor.toNat val, cursor := 0, pub_dirty := true }
  else { s with next := s.next.write s.cursor.toNat val, cursor := s.cursor + 1 }

section
variable {val : Byte} {s : State}

theorem afterWriteByte_dropped (hd : s.discard ≠ 0) : afterWriteByte val s = { s with discard := s.discard - 1 } :=
  if_pos hd

theorem afterWriteByte_wrapping (hd : s.discard = 0) (hN : s.cursor.toNat = s.cfg.N - 1) : afterWriteByte val s =
    { s with next := s.next.write s.cursor.toNat val, cursor := 0, pub_dirty := true } := by
  rw [afterWriteByte, if_neg (not_not.2 hd), if_pos hN]

theorem afterWriteByte_advancing (hd : s.discard = 0) (hN : s.cursor.toNat ≠ s.cfg.N - 1) : afterWriteByte val s =
    { s with next := s.next.write s.cursor.toNat val, cursor := s.cursor + 1 } := by
  rw [afterWriteByte, if_neg (not_not.2 hd), if_neg hN]

theorem afterWriteByte_next_of_discard_eq_zero (hd : s.discard = 0) :
    (afterWriteByte val s).next = s.next.write s.cursor.toNat val := by
  by_cases hN : s.cursor.toNat = s.cfg.N - 1
  · rw [afterWriteByte_wrapping hd hN]
  · rw [afterWriteByte_advancing hd hN]

theorem cursorAtEnd_iff : cursorAtEnd s = true ↔ s.cursor.toNat = s.cfg.N - 1 := decide_eq_true_iff

/-- Only a byte that is stored needs its offset to be in the frame (20_memory.md rule R71). -/
theorem exec_writeByte_eq_next {t : State} : exec (.writeByte val) s = .next t ↔
    (s.discard = 0 → s.cursor.toNat < s.cfg.N) ∧ t = afterWriteByte val s := by
  show execWriteByte val s = .next t ↔ _
  unfold execWriteByte
  by_cases hd : s.discard ≠ 0
  · rw [if_pos hd, afterWriteByte_dropped hd, Host.Outcome.next.injEq]
    exact ⟨fun h => ⟨fun hd0 => absurd hd0 hd, h.symm⟩, fun h => h.2.symm⟩
  · rw [if_neg hd, storeByte_eq_next, imp_iff_right (not_not.1 hd), cursorAfterStore, afterWriteByte, if_neg hd]
    simp only [cursorAtEnd_iff]
    by_cases hN : s.cursor.toNat = s.cfg.N - 1
    · simp only [if_pos hN]
    · simp only [if_neg hN]

theorem afterWriteByte_pub_dirty : (afterWriteByte val s).pub_dirty = true ↔
    s.pub_dirty = true ∨ s.discard = 0 ∧ s.cursor.toNat = s.cfg.N - 1 := by
  by_cases hd : s.discard = 0
  · by_cases hN : s.cursor.toNat = s.cfg.N - 1
    · simp [afterWriteByte_wrapping hd hN, hd, hN]
    · simp [afterWriteByte_advancing hd hN, hN]
  · rw [afterWriteByte_dropped hd]
    simp only [hd, false_and, or_false]

end

/-- Settles O12: `afterWriteByte` is the rule's next state. -/
theorem writeByteStoresAtTheCursor : Obligations.WriteByteStoresAtTheCursor :=
  fun _ _ hc => exec_writeByte_eq_next.2 ⟨fun _ => hc, rfl⟩

/-- Settles O13: a dropped byte leaves `next` as it is, and a stored one is a write at the cursor. -/
theorem writeByteChangesOneByteOfNext : Obligations.WriteByteChangesOneByteOfNext := by
  intro val s t hw ht
  have hcurrent : t.current = s.current := by rw [exec_frame ht]
  obtain ⟨-, rfl⟩ := exec_writeByte_eq_next.1 ht
  refine ⟨fun a ha => ?_, fun hd => ?_, fun a => by rw [hcurrent]⟩
  · by_cases hd : s.discard = 0
    · rw [afterWriteByte_next_of_discard_eq_zero hd]
      exact Memory.read_write_other (ha.resolve_left (not_not.2 hd)) _ _
    · rw [afterWriteByte_dropped hd]
  · rw [afterWriteByte_next_of_discard_eq_zero hd]
    exact Memory.read_write_same hw _ _

/-- Settles O15: of all commands only a WRITE_BYTE that stores writes `pub_dirty`. -/
theorem onlyTheWrappingStorePublishes : Obligations.OnlyTheWrappingStorePublishes := by
  intro i s t ht
  by_cases hi : ∃ val, i = .writeByte val
  · obtain ⟨val, rfl⟩ := hi
    obtain ⟨-, rfl⟩ := exec_writeByte_eq_next.1 ht
    simp [afterWriteByte_pub_dirty]
  · obtain ⟨-, hdirty⟩ := exec_keeps_next_and_pub_dirty ht fun val hval => absurd ⟨val, hval⟩ hi
    simp [hdirty, hi]

/-! ## The other commands (rules R210, R218, R224, R232 and R234) -/

theorem exec_submit (len : BitVec 24) (s : State) : exec (.submit len) s = .next (
    if len.toNat = s.cfg.N then { s with cursor := 0, discard := 0 }
    else { s with err_len := true, discard := len }) := by
  show execSubmit len s = _
  unfold execSubmit lenIsFrame
  by_cases h : len.toNat = s.cfg.N
  · rw [if_pos (decide_eq_true h), if_pos h]
  · rw [if_neg (by simpa using h), if_neg h]
    rfl

/-- N fits the header's LEN (30_encoding.md rule R106). -/
theorem exec_submit_frame (s : State) :
    exec (.submit (BitVec.ofNat 24 s.cfg.N)) s = .next { s with cursor := 0, discard := 0 } := by
  have hN := s.cfg.N_lt
  rw [exec_submit, if_pos]
  rw [BitVec.toNat_ofNat]
  omega

/-- Settles O16: `exec_submit` gives the rule's next state. -/
theorem submitChecksTheFrameLength : Obligations.SubmitChecksTheFrameLength := exec_submit

/-- Settles O17: the status word has the bucket in its bits 28 to 30. -/
theorem setBucketAcceptsTheBucket : Obligations.SetBucketAcceptsTheBucket := by
  intro bkt s
  obtain ⟨-, -, -, -, -, -, hbucket, -⟩ := statusWordLayout { s with bucket_i := bkt, bkt_dirty := true }
  exact ⟨_, rfl, rfl, hbucket⟩

/-- Settles O18: clearing the flags is CLEAR_STATUS's whole meaning. -/
theorem clearStatusClearsTheFlags : Obligations.ClearStatusClearsTheFlags := fun _ => rfl

/-- A word with a reserved opcode is its own row's command, whatever its operand bits (30_encoding.md rule R109). -/
theorem decode_of_reserved_opcode {w : Word} (h : 5 ≤ (fieldOP w).toNat) :
    ∃ i, decode w = .ok i ∧ 5 ≤ i.rowIndex.val := by
  obtain ⟨n, hn⟩ : ∃ n : Fin 16, fieldOP w = BitVec.ofNat 4 n.val :=
    ⟨(fieldOP w).toFin, ((BitVec.ofNat_toNat 4 (fieldOP w)).trans (BitVec.setWidth_eq _)).symm⟩
  have hrow : 5 ≤ n.val := by
    rw [hn, BitVec.toNat_ofNat] at h
    omega
  have hword : encode (.ofRow n w) = w := by
    have hw : BitVec.ofNat 4 n.val ++ fieldOperand w = w := hn ▸ extract_append_extract (m := 4) (n := 28) w
    obtain ⟨i, rfl⟩ : ∃ i : Instr, i.rowIndex = n := ⟨.ofRow n w, Instr.rowIndex_ofRow n w⟩
    cases i with
    | nop | writeByte | submit | setBucket | clearStatus => simp [Instr.rowIndex] at hrow
    | _ => exact hw
  exact ⟨.ofRow n w, by rw [decode_eq hn, if_pos hword], by rwa [Instr.rowIndex_ofRow]⟩

/-- Settles O19: the eleven rows from RESERVED_5 on have one meaning. -/
theorem reservedOpcodesRaiseErrCmd : Obligations.ReservedOpcodesRaiseErrCmd := by
  refine ⟨fun operand s => ⟨rfl, rfl, rfl, rfl, rfl, rfl, rfl, rfl, rfl, rfl, rfl⟩, fun w s h => ?_⟩
  obtain ⟨i, hi, hrow⟩ := decode_of_reserved_opcode h
  rw [commandWord_of_ok hi, exec_of_reserved hrow]
  rfl

/-! ## The DOM_I step (rules R211, R236 and R237) -/

section
variable {s : State}

theorem event_no_command (hr : runsI s = true) (w : Word) : event (.clk_i false w) s = .next (ingestParts s) :=
  if_pos hr

theorem event_of_decode {w : Word} {i : Instr} (hr : runsI s = true) (hw : decode w = .ok i) :
    event (.clk_i true w) s = exec i (ingestParts s) :=
  (if_pos hr).trans (commandWord_of_ok hw _)

theorem event_encode (hr : runsI s = true) (i : Instr) : event (.clk_i true (encode i)) s = exec i (ingestParts s) :=
  event_of_decode hr (decode_encode i)

theorem pubLaunches_iff (s : State) : pubLaunches s = true ↔ s.pub_dirty = true ∧ s.pack_s2 = s.pub_req := by
  rw [pubLaunches, Bool.and_eq_true, beq_iff_eq]

theorem bktLaunches_iff (s : State) : bktLaunches s = true ↔ s.bkt_dirty = true ∧ s.back_s2 = s.bkt_req := by
  rw [bktLaunches, Bool.and_eq_true, beq_iff_eq]

end

/-- Settles O10: out of reset is where a domain takes its step. -/
theorem domainInResetTakesNoStep : Obligations.DomainInResetTakesNoStep :=
  ⟨fun _ _ _ hr => if_neg (ne_true_of_eq_false hr), fun _ hr => if_neg (ne_true_of_eq_false hr)⟩

/-- Settles O11: the word 0 is NOP's own, and under opcode 0 no other word is NOP's. -/
theorem nopHasNoEffect : Obligations.NopHasNoEffect := by
  refine ⟨fun s => rfl, fun s hr => ?_, fun operand hne => ?_⟩
  · rw [event_no_command hr]
    exact event_encode hr .nop
  · have hop : fieldOP (0x0#4 ++ operand) = BitVec.ofNat 4 (0 : Fin 16).val := BitVec.extractLsb'_append_eq_left
    rw [decode_eq hop, if_neg]
    intro h
    have h : 0x0#4 ++ 0#28 = 0x0#4 ++ operand := h
    exact hne ((BitVec.append_right_inj _).1 h).symm

/-- Settles O26: the listed word is taken and run. -/
theorem stepRunsTheDecodedCommand : Obligations.StepRunsTheDecodedCommand := by
  intro s w i rest hs hr hw
  have hinput : nextInput s = .clk_i true w := by unfold nextInput; rw [hs]
  have htaken : takeInput s = { s with inputs := rest } := by unfold takeInput; rw [hs]
  rw [step, hinput, htaken]
  exact event_of_decode hr hw

/-- Settles O28: parts 1 and 2 are the whole step, and their writes are those of the synchronisers and the launches. -/
theorem launchesAndAcknowledges : Obligations.LaunchesAndAcknowledges := by
  intro s w hr
  simp only [← pubLaunches_iff, ← bktLaunches_iff]
  exact event_no_command hr w

/-- Settles O29: the launch is made from the state before the edge, and the command's mark is written after it. -/
theorem commandWriteWinsOverLaunch : Obligations.CommandWriteWinsOverLaunch := by
  intro s val bkt hr
  refine ⟨fun hdirty hstill hd hN => ?_, fun hdirty hstill => ?_⟩
  · have hl : pubLaunches s = true := (pubLaunches_iff s).2 ⟨hdirty, hstill⟩
    have hc : s.cursor.toNat < s.cfg.N := by have := s.cfg.N_pos; omega
    have ht : event (.clk_i true (encode (.writeByte val))) s = .next (afterWriteByte val (ingestParts s)) :=
      (event_encode hr _).trans (exec_writeByte_eq_next.2 ⟨fun _ => hc, rfl⟩)
    rw [afterWriteByte_wrapping (s := ingestParts s) hd hN] at ht
    exact ⟨_, ht, by simp [hl], rfl⟩
  · have hl : bktLaunches s = true := (bktLaunches_iff s).2 ⟨hdirty, hstill⟩
    exact ⟨_, event_encode hr (.setBucket bkt), by simp [hl], by simp [hl], rfl, rfl⟩

/-- Settles O21: a step without a command is parts 1 and 2, and a command's writes are those of its meaning. -/
theorem partThreeWritesItsColumns : Obligations.PartThreeWritesItsColumns := by
  intro v w s t hr ht
  rcases edgeI_cases ht with ⟨hreset, -⟩ | ⟨-, rfl, rfl⟩ | ⟨-, rfl, hw, rfl⟩ | ⟨-, rfl, i, hw, ht⟩
  · rw [hr] at hreset
    cases hreset
  · exact ⟨fun _ => rfl, nofun⟩
  · refine ⟨nofun, fun _ => ?_⟩
    rw [hw]
    rfl
  · refine ⟨nofun, fun _ => ?_⟩
    rw [hw]
    generalize ingestParts s = u at ht ⊢
    cases i with
    | writeByte val =>
      obtain ⟨-, rfl⟩ := exec_writeByte_eq_next.1 ht
      unfold afterWriteByte
      by_cases hN : u.cursor.toNat = u.cfg.N - 1
      · simp only [hN]
      · simp only [if_neg hN]
    | submit len =>
      exact (Host.Outcome.next.inj ((exec_submit len u).symm.trans ht)).symm
    | _ => exact (Host.Outcome.next.inj ht).symm

/-! ## Runs that meet the invariant -/

/-- With the invariant every event has a next state, in reset or out of it. -/
theorem exists_event_eq_next {s : State} (h : s.Inv) (e : Input) : ∃ t, event e s = .next t := by
  cases e with
  | clk_i v w => exact exists_edgeI_eq_next v w h.cursor_in_frame
  | clk_r =>
    by_cases hr : runsR s = true
    · exact ⟨_, (event_clk_r_eq_next hr).2 ⟨fun _ => h.k_in_frame, rfl⟩⟩
    · exact ⟨_, if_neg hr⟩
  | rst_n level => exact ⟨_, rfl⟩

theorem exists_feed_of_inv {s : State} (h : s.Inv) (l : List Input) : ∃ t, feed l s = .next t := by
  induction l generalizing s with
  | nil => exact ⟨s, rfl⟩
  | cons e l ih =>
    obtain ⟨u, hu⟩ := exists_event_eq_next h e
    obtain ⟨t, ht⟩ := ih (h.event_inv hu)
    exact ⟨t, feed_cons_eq_next.2 ⟨u, hu, ht⟩⟩

theorem feed_singleton (e : Input) (s : State) : feed [e] s = event e s := by
  rw [feed_cons]
  cases event e s <;> rfl

/-- A clk_i edge out of reset is parts 1 and 2, and then the command writes its columns (rule R238). -/
theorem edgeI_columns {v : Bool} {w : Word} {s t : State} (hr : runsI s = true) (h : edgeI v w s = .next t) :
    t = { ingestParts s with
      next := t.next, cursor := t.cursor, discard := t.discard, pub_dirty := t.pub_dirty
      bucket_i := t.bucket_i, bkt_dirty := t.bkt_dirty
      err_cmd := t.err_cmd, err_arg := t.err_arg, err_len := t.err_len } := by
  rcases edgeI_cases h with ⟨hreset, -⟩ | ⟨-, -, rfl⟩ | ⟨-, -, -, rfl⟩ | ⟨-, -, i, -, h⟩
  · exact absurd hr (ne_true_of_eq_false hreset)
  · rfl
  · rfl
  · exact exec_frame h

/-- Only a change of rst_n stops clk_i's domain (70_reset_and_hazards.md rule R271). -/
theorem event_runsI_and_cfg {e : Input} {s t : State} (hr : runsI s = true) (he : ∀ level, e ≠ .rst_n level)
    (h : event e s = .next t) : runsI t = true ∧ t.cfg = s.cfg := by
  rcases event_cases h with ⟨v, w, -, h⟩ | ⟨-, h⟩ | ⟨rfl, -⟩ | ⟨rfl, -⟩
  · rw [edgeI_columns hr h]
    exact ⟨hr, rfl⟩
  · rcases edgeR_cases h with ⟨-, rfl⟩ | ⟨-, h⟩
    · exact ⟨hr, rfl⟩
    · rw [renderStep_frame h]
      exact ⟨hr, rfl⟩
  · exact absurd rfl (he true)
  · exact absurd rfl (he false)

theorem feed_runsI_and_cfg {l : List Input} {s t : State} (hr : runsI s = true) (hl : noReset l = true)
    (h : feed l s = .next t) : runsI t = true ∧ t.cfg = s.cfg := by
  induction l generalizing s with
  | nil => exact Host.Outcome.next.inj h ▸ ⟨hr, rfl⟩
  | cons e l ih =>
    obtain ⟨he, hl⟩ := (noReset_cons e l).1 hl
    obtain ⟨u, hu, h⟩ := feed_cons_eq_next.1 h
    obtain ⟨hru, hcfg⟩ := event_runsI_and_cfg hr he hu
    obtain ⟨hrt, hcfg'⟩ := ih hru hl h
    exact ⟨hrt, hcfg'.trans hcfg⟩

/-! ## The frame commands of a run
Between two of them nothing touches `next`, the cursor and the discard count (rule R217). -/

/-- The event's SUBMIT or WRITE_BYTE, if it presents one. -/
def frameCommand (e : Input) : Option Instr :=
  match presented e with
  | some (.writeByte val) => some (.writeByte val)
  | some (.submit len) => some (.submit len)
  | _ => none

theorem frameCommands_eq (l : List Input) : frameCommands l = l.filterMap frameCommand := rfl

theorem presented_eq_some {e : Input} {i : Instr} (h : presented e = some i) :
    ∃ w, e = .clk_i true w ∧ decode w = .ok i := by
  unfold presented at h
  split at h
  case h_1 w =>
    refine ⟨w, rfl, ?_⟩
    split at h
    · rename_i hw
      rw [hw, Option.some.inj h]
    · cases h
  all_goals cases h

theorem event_of_presented {e : Input} {i : Instr} {s : State} (hr : runsI s = true) (h : presented e = some i) :
    event e s = exec i (ingestParts s) := by
  obtain ⟨w, rfl, hw⟩ := presented_eq_some h
  exact event_of_decode hr hw

theorem presented_of_frameCommand {e : Input} {i : Instr} (h : frameCommand e = some i) : presented e = some i := by
  unfold frameCommand at h
  split at h
  case h_1 hp => rwa [← Option.some.inj h]
  case h_2 hp => rwa [← Option.some.inj h]
  case h_3 => cases h

theorem frameCommand_eq_none {e : Input} {i : Instr} (h : frameCommand e = none) (hi : presented e = some i) :
    (∀ val, i ≠ .writeByte val) ∧ ∀ len, i ≠ .submit len := by
  unfold frameCommand at h
  rw [hi] at h
  constructor <;> rintro x rfl <;> cases h

theorem frameCommand_encode_writeByte (val : Byte) :
    frameCommand (.clk_i true (encode (.writeByte val))) = some (.writeByte val) := by
  simp [frameCommand, presented]

/-- What the bytes of a frame depend on and write. -/
def frameView (s : State) : Config × Memory × BitVec 20 × BitVec 24 := (s.cfg, s.next, s.cursor, s.discard)

theorem frameView_eq_iff {s t : State} : frameView t = frameView s ↔
    t.cfg = s.cfg ∧ t.next = s.next ∧ t.cursor = s.cursor ∧ t.discard = s.discard := by
  simp only [frameView, Prod.mk.injEq]

theorem frameView_ingestParts (s : State) : frameView (ingestParts s) = frameView s := rfl

/-- Of the commands only WRITE_BYTE and SUBMIT write `next`, the cursor or the discard count (rules R212 to R214 and
R218). -/
theorem exec_frameView {i : Instr} {s t : State} (hw : ∀ val, i ≠ .writeByte val) (hs : ∀ len, i ≠ .submit len)
    (h : exec i s = .next t) : frameView t = frameView s := by
  rcases exec_cases h with ⟨-, rfl⟩ | ⟨v, rfl, -⟩ | ⟨v, rfl, -⟩ | ⟨n, rfl, -⟩ | ⟨n, rfl, -⟩ | ⟨b, -, rfl⟩ | ⟨-, rfl⟩ |
    ⟨-, rfl⟩
  case inr.inl | inr.inr.inl => exact absurd rfl (hw v)
  case inr.inr.inr.inl | inr.inr.inr.inr.inl => exact absurd rfl (hs n)
  all_goals rfl

theorem event_frameView {e : Input} {s t : State} (he : ∀ level, e ≠ .rst_n level) (hf : frameCommand e = none)
    (h : event e s = .next t) : frameView t = frameView s := by
  rcases event_cases h with ⟨v, w, rfl, h⟩ | ⟨-, h⟩ | ⟨rfl, -⟩ | ⟨rfl, -⟩
  · rcases edgeI_cases h with ⟨-, rfl⟩ | ⟨-, -, rfl⟩ | ⟨-, -, -, rfl⟩ | ⟨-, rfl, i, hw, h⟩
    · rfl
    · rfl
    · rfl
    · obtain ⟨hwrite, hsubmit⟩ := frameCommand_eq_none hf (i := i) (by simp [presented, hw])
      exact (exec_frameView hwrite hsubmit h).trans (frameView_ingestParts s)
  · rcases edgeR_cases h with ⟨-, rfl⟩ | ⟨-, h⟩
    · rfl
    · rw [renderStep_frame h]
      rfl
  · exact absurd rfl (he true)
  · exact absurd rfl (he false)

theorem feed_frameView {l : List Input} {s t : State} (hl : noReset l = true) (hf : ∀ e ∈ l, frameCommand e = none)
    (h : feed l s = .next t) : frameView t = frameView s := by
  induction l generalizing s with
  | nil => exact Host.Outcome.next.inj h ▸ rfl
  | cons e l ih =>
    obtain ⟨he, hl⟩ := (noReset_cons e l).1 hl
    obtain ⟨hfe, hfl⟩ := List.forall_mem_cons.1 hf
    obtain ⟨u, hu, h⟩ := feed_cons_eq_next.1 h
    exact (ih hl hfl h).trans (event_frameView he hfe hu)

/-- In a run, the first frame command i runs on the `next`, cursor and discard count of the run's start. -/
theorem feed_frameCommands_cons {l : List Input} {i : Instr} {is : List Instr} {s t : State} (h : s.Inv)
    (hr : runsI s = true) (hl : noReset l = true) (hf : frameCommands l = i :: is) (ht : feed l s = .next t) :
    ∃ (rest : List Input) (u v : State), frameCommands rest = is ∧ noReset rest = true ∧ u.Inv ∧ runsI u = true ∧
      frameView u = frameView s ∧ exec i u = .next v ∧ feed rest v = .next t := by
  rw [frameCommands_eq, List.filterMap_eq_cons_iff] at hf
  obtain ⟨l1, e, l2, rfl, hnone, he, hrest⟩ := hf
  rw [noReset_append, Bool.and_eq_true, noReset_cons] at hl
  obtain ⟨hl1, -, hl2⟩ := hl
  obtain ⟨u, hu, ht⟩ := feed_append_eq_next.1 ht
  obtain ⟨v, hv, ht⟩ := feed_cons_eq_next.1 ht
  obtain ⟨hru, -⟩ := feed_runsI_and_cfg hr hl1 hu
  exact ⟨l2, ingestParts u, v, hrest, hl2, (h.feed_inv hu).ingestParts_inv hru, hru,
    (frameView_ingestParts u).trans (feed_frameView hl1 hnone hu),
    (event_of_presented hru (presented_of_frameCommand he)).symm.trans hv, ht⟩

theorem exec_runsI_and_cfg {i : Instr} {s t : State} (h : exec i s = .next t) : runsI t = runsI s ∧ t.cfg = s.cfg := by
  rw [exec_frame h]
  exact ⟨rfl, rfl⟩

/-! ## The bytes of a frame (rules R216 and R217) -/

/-- The bytes have been stored from offset 0 on over the memory m, and nothing is being dropped. -/
def filled (m : Memory) (bytes : List Byte) (s : State) : Prop :=
  s.discard = 0 ∧ s.cursor.toNat = bytes.length ∧ ∀ a, s.next.read a = bytes.getD a (m.read a)

theorem filled_nil {s : State} (hd : s.discard = 0) (hc : s.cursor = 0) : filled s.next [] s :=
  ⟨hd, by rw [hc]; rfl, fun _ => rfl⟩

theorem filled_congr {m : Memory} {bytes : List Byte} {s t : State} (h : frameView t = frameView s) :
    filled m bytes t ↔ filled m bytes s := by
  obtain ⟨-, hnext, hcursor, hdiscard⟩ := frameView_eq_iff.1 h
  rw [filled, hnext, hcursor, hdiscard]
  rfl

/-- A byte written after the others is read at its own offset, and the others where they were. -/
theorem read_write_length {m m' : Memory} {bytes : List Byte} (hw : m'.wf = true)
    (h : ∀ a, m'.read a = bytes.getD a (m.read a)) (val : Byte) (a : Nat) :
    (m'.write bytes.length val).read a = (bytes ++ [val]).getD a (m.read a) := by
  rcases lt_trichotomy a bytes.length with hlt | rfl | hgt
  · rw [Memory.read_write_other hlt.ne, h, List.getD_append _ _ _ _ hlt]
  · rw [Memory.read_write_same hw, List.getD_append_right _ _ _ _ le_rfl, Nat.sub_self]
    rfl
  · rw [Memory.read_write_other hgt.ne', h, List.getD_eq_default _ _ hgt.le, List.getD_eq_default]
    rw [List.length_append]
    exact hgt

/-- A byte that is not the frame's last extends the bytes that are stored. -/
theorem filled_append {m : Memory} {bytes : List Byte} {val : Byte} {s : State} (h : filled m bytes s)
    (hw : s.next.wf = true) (hN : bytes.length + 1 < s.cfg.N) : filled m (bytes ++ [val]) (afterWriteByte val s) := by
  obtain ⟨hd, hc, hread⟩ := h
  have hfit := s.cfg.N_lt
  rw [afterWriteByte_advancing hd (by omega)]
  refine ⟨hd, ?_, hc ▸ read_write_length hw hread val⟩
  rw [BitVec.toNat_add, show (1 : BitVec 20).toNat = 1 from rfl, List.length_append, hc,
    Nat.mod_eq_of_lt (by omega)]
  rfl

/-- A run whose frame commands are WRITE_BYTEs, short of the end of the frame, stores their bytes in order. -/
theorem feed_filled {m : Memory} {done bytes : List Byte} {l : List Input} {s t : State} (h : s.Inv)
    (hr : runsI s = true) (hl : noReset l = true) (hf : frameCommands l = bytes.map .writeByte)
    (hs : filled m done s) (hN : done.length + bytes.length < s.cfg.N) (ht : feed l s = .next t) :
    filled m (done ++ bytes) t := by
  induction bytes generalizing done l s with
  | nil =>
    rw [List.append_nil]
    exact (filled_congr (feed_frameView hl (List.filterMap_eq_nil_iff.1 hf) ht)).2 hs
  | cons val bytes ih =>
    rw [List.length_cons] at hN
    obtain ⟨rest, u, v, hrest, hlrest, hiu, hru, hview, hexec, ht⟩ := feed_frameCommands_cons h hr hl hf ht
    obtain ⟨hcfg, -⟩ := frameView_eq_iff.1 hview
    obtain ⟨hrv, hcfg'⟩ := exec_runsI_and_cfg hexec
    have hiv := hiu.exec_inv hru hexec
    obtain ⟨-, rfl⟩ := exec_writeByte_eq_next.1 hexec
    have hv := filled_append (val := val) ((filled_congr hview).2 hs) hiu.next_canonical (by rw [hcfg]; omega)
    rw [List.append_cons]
    refine ih hiv (hrv.trans hru) hlrest hrest hv ?_ ht
    rw [hcfg', hcfg, List.length_append, List.length_singleton]
    omega

/-- The store of a frame's last byte completes the frame and publishes it (rule R213). -/
theorem event_last_byte {m : Memory} {bytes : List Byte} {val : Byte} {s t : State} (h : s.Inv) (hr : runsI s = true)
    (hs : filled m bytes s) (hN : bytes.length + 1 = s.cfg.N)
    (ht : event (.clk_i true (encode (.writeByte val))) s = .next t) :
    (∀ a, a < s.cfg.N → t.next.read a = (bytes ++ [val]).getD a 0) ∧ t.cursor = 0 ∧ t.discard = 0 ∧
      t.pub_dirty = true := by
  obtain ⟨hd, hc, hread⟩ := hs
  obtain ⟨-, rfl⟩ := exec_writeByte_eq_next.1 ((event_encode hr _).symm.trans ht)
  rw [afterWriteByte_wrapping (s := ingestParts s) hd (by simp; omega)]
  refine ⟨fun a ha => ?_, rfl, hd, rfl⟩
  have ha : a < (bytes ++ [val]).length := by rw [List.length_append]; exact hN ▸ ha
  rw [ingestParts_cursor, ingestParts_next, hc, read_write_length h.next_canonical hread, List.getD_eq_getElem _ _ ha,
    List.getD_eq_getElem _ _ ha]

/-- Settles O54: SUBMIT N puts the cursor to 0, all bytes but the last fill the frame up to N − 1, and the last one
completes it. -/
theorem frameFillsNextAndPublishes : Obligations.FrameFillsNextAndPublishes := by
  intro s l bytes val h hr hl hN hf
  obtain ⟨t, ht⟩ := exists_feed_of_inv h (l ++ [.clk_i true (encode (.writeByte val))])
  refine ⟨t, ht, ?_⟩
  obtain ⟨w, hw, ht⟩ := feed_append_eq_next.1 ht
  rw [feed_singleton] at ht
  obtain ⟨hrw, hcfgw⟩ := feed_runsI_and_cfg hr hl hw
  obtain ⟨rest, u, v, hrest, hlrest, hiu, hru, hview, hexec, hw'⟩ := feed_frameCommands_cons h hr hl hf hw
  obtain ⟨hcfg, -⟩ := frameView_eq_iff.1 hview
  obtain ⟨hrv, hcfg'⟩ := exec_runsI_and_cfg hexec
  have hiv := hiu.exec_inv hru hexec
  rw [← hcfg, exec_submit_frame] at hexec
  have hempty : filled v.next [] v := by
    obtain rfl := Host.Outcome.next.inj hexec
    exact filled_nil rfl rfl
  have hfilled : filled v.next bytes w := feed_filled hiv (hrv.trans hru) hlrest hrest hempty
    (by rw [hcfg', hcfg, List.length_nil]; omega) hw'
  rw [← hcfgw] at hN ⊢
  exact event_last_byte (h.feed_inv hw) hrw hfilled hN ht

/-! ## Streams of WRITE_BYTEs alone -/

/-- The bytes presented at one clk_i edge after another. -/
def byteEdges (vals : List Byte) : List Input := vals.map fun v => .clk_i true (encode (.writeByte v))

theorem byteEdges_append (l m : List Byte) : byteEdges (l ++ m) = byteEdges l ++ byteEdges m := List.map_append

theorem noReset_byteEdges (vals : List Byte) : noReset (byteEdges vals) = true := by
  simp [noReset, byteEdges]

theorem frameCommands_byteEdges (vals : List Byte) : frameCommands (byteEdges vals) = vals.map .writeByte := by
  rw [frameCommands_eq, byteEdges, List.filterMap_map]
  simp [frameCommand_encode_writeByte]

theorem exists_append_singleton_append {α : Type} {l : List α} {n : Nat} (hl : n < l.length) :
    ∃ (l1 : List α) (x : α) (l2 : List α), l = l1 ++ [x] ++ l2 ∧ l1.length = n :=
  ⟨l.take n, l[n], l.drop (n + 1), by rw [List.take_append_getElem hl, List.take_append_drop],
    List.length_take_of_le hl.le⟩

/-- Settles O25: the first N bytes complete a frame, and the other k are stored over it from offset 0 on. -/
theorem writesWrapModuloTheFrame : Obligations.WritesWrapModuloTheFrame := by
  intro s vals k h hr hc hd hk hlen
  have hpos := s.cfg.N_pos
  obtain ⟨bytes, val, rest, rfl, hbytes⟩ := exists_append_singleton_append (by omega : s.cfg.N - 1 < vals.length)
  have hN : bytes.length + 1 = s.cfg.N := by omega
  have hframe : (bytes ++ [val]).length = s.cfg.N := by rw [List.length_append]; exact hN
  have hrest : rest.length = k := by rw [List.length_append, hframe] at hlen; omega
  obtain ⟨t, ht⟩ := exists_feed_of_inv h (byteEdges (bytes ++ [val] ++ rest))
  refine ⟨t, ht, ?_⟩
  rw [byteEdges_append, byteEdges_append, feed_append_eq_next] at ht
  obtain ⟨v, hv, ht⟩ := ht
  obtain ⟨u, hu, huv⟩ := feed_append_eq_next.1 hv
  obtain ⟨hru, hcfgu⟩ := feed_runsI_and_cfg hr (noReset_byteEdges bytes) hu
  obtain ⟨hrv, hcfgv⟩ := feed_runsI_and_cfg hru (noReset_byteEdges [val]) huv
  have hfilled : filled s.next bytes u := feed_filled h hr (noReset_byteEdges _) (frameCommands_byteEdges _)
    (filled_nil hd hc) (by rw [List.length_nil]; omega) hu
  obtain ⟨hread, hc', hd', -⟩ := event_last_byte (h.feed_inv hu) hru hfilled (by rw [hcfgu]; exact hN)
    ((feed_singleton _ _).symm.trans huv)
  obtain ⟨-, hcursor, hread'⟩ : filled v.next rest t := feed_filled (h.feed_inv hv) hrv (noReset_byteEdges _)
    (frameCommands_byteEdges _) (filled_nil hd' hc') (by rw [hcfgv, hcfgu, List.length_nil]; omega) ht
  refine ⟨hcursor.trans hrest, fun a ha => ?_, fun a hka haN => ?_⟩
  · rw [hread', List.getD_append_right _ _ _ _ (by omega), hframe, Nat.add_sub_cancel_left,
      List.getD_eq_getElem _ _ (by omega), List.getD_eq_getElem _ _ (by omega)]
  · rw [hread', List.getD_eq_default _ _ (by omega), hread a (hcfgu.symm ▸ haN),
      List.getD_append (bytes ++ [val]) rest _ _ (by omega)]

/-- By induction on the bytes. -/
theorem feed_dropped {vals : List Byte} {s : State} (hr : runsI s = true) (hlen : vals.length = s.discard.toNat) :
    ∃ t, feed (byteEdges vals) s = .next t ∧ t.discard = 0 ∧ t.next = s.next ∧ t.cursor = s.cursor := by
  induction vals generalizing s with
  | nil => exact ⟨s, rfl, BitVec.eq_of_toNat_eq hlen.symm, rfl, rfl⟩
  | cons val vals ih =>
    rw [List.length_cons] at hlen
    have hd : s.discard ≠ 0 := by rintro hd; rw [hd] at hlen; simp at hlen
    have hu : event (.clk_i true (encode (.writeByte val))) s =
        .next { ingestParts s with discard := s.discard - 1 } := (event_encode hr _).trans (if_pos hd)
    obtain ⟨t, ht, hzero, hnext, hcursor⟩ := ih (s := { ingestParts s with discard := s.discard - 1 }) hr
      (by show vals.length = (s.discard - 1).toNat; bv_omega)
    exact ⟨t, feed_cons_eq_next.2 ⟨_, hu, ht⟩, hzero, hnext, hcursor⟩

/-- Settles O14: each clause is the rule of its command, and the run of dropped bytes is `feed_dropped`. -/
theorem rejectedFrameBytesAreDropped : Obligations.RejectedFrameBytesAreDropped := by
  refine ⟨fun val s hd => if_pos hd, fun i s t hw hs ht => ?_, fun s vals hr => feed_dropped hr, exec_submit_frame,
    fun s => ⟨assertReset s, rfl, rfl⟩, fun s => ?_⟩
  · obtain ⟨-, -, -, hdiscard⟩ := frameView_eq_iff.1 (exec_frameView hw hs ht)
    exact hdiscard
  · obtain ⟨-, -, -, -, -, hdiscarding, -⟩ := statusWordLayout s
    exact hdiscarding

/-! ## How far a request has come (rules R222 and R230)
With at most one flip in the ring, the number of registers from the request on that show it says where it is: 1 right
after the launch, 4 once it is acknowledged, and 6 when the next launch can be made. -/

/-- The registers of the ring, from the request on, that show the request. -/
def requestReach (ring : List Bool) : Nat := (ring.takeWhile fun x => x == ring.headD false).length

def publishReach (s : State) : Nat := requestReach (publishRing s)

def bucketReach (s : State) : Nat := requestReach (bucketRing s)

/-- How far the request is after a DOM_R step. -/
def reachAfterRender (n : Nat) : Nat := if n < 4 then n + 1 else n

/-- How far the request is after a DOM_I step. -/
def reachAfterIngest (launch : Bool) (n : Nat) : Nat := if launch then 1 else if 4 ≤ n ∧ n < 6 then n + 1 else n

section
variable {req s1 s2 ack a1 a2 : Bool}

theorem requestReach_render (h : atMostOneFlip [req, s1, s2, ack, a1, a2] = true) :
    requestReach [req, req, s1, s2, a1, a2] = reachAfterRender (requestReach [req, s1, s2, ack, a1, a2]) := by
  revert req s1 s2 ack a1 a2
  decide

/-- A launch finds the ring still, and its request shows in no other register yet. -/
theorem requestReach_ingest (dirty : Bool) (h : atMostOneFlip [req, s1, s2, ack, a1, a2] = true) :
    requestReach [if dirty && a2 == req then !req else req, s1, s2, ack, ack, a1] =
      reachAfterIngest (dirty && a2 == req) (requestReach [req, s1, s2, ack, a1, a2]) := by
  revert req s1 s2 ack a1 a2 dirty
  decide

/-- What each place on the ring says of the registers, in the order of the places. -/
theorem requestReach_places (h : atMostOneFlip [req, s1, s2, ack, a1, a2] = true) :
    (requestReach [req, s1, s2, ack, a1, a2] = 1 ↔ req ≠ s1) ∧
    (4 ≤ requestReach [req, s1, s2, ack, a1, a2] ↔ ack = req) ∧
    (5 ≤ requestReach [req, s1, s2, ack, a1, a2] ↔ ack = req ∧ a1 = req) ∧
    (requestReach [req, s1, s2, ack, a1, a2] = 6 ↔ a2 = req) := by
  revert req s1 s2 ack a1 a2
  decide

theorem requestReach_le (ring : List Bool) : requestReach ring ≤ ring.length := (List.takeWhile_sublist _).length_le

theorem one_le_requestReach : 1 ≤ requestReach [req, s1, s2, ack, a1, a2] := by
  revert req s1 s2 ack a1 a2
  decide

end

section
variable {s t : State} {v : Bool} {w : Word}

theorem publishReach_afterRender (h : s.Inv) : publishReach (afterRender s) = reachAfterRender (publishReach s) :=
  requestReach_render h.one_publish_in_flight

theorem bucketReach_afterRender (h : s.Inv) : bucketReach (afterRender s) = reachAfterRender (bucketReach s) :=
  requestReach_render h.one_bucket_in_flight

theorem publishReach_edgeI (h : s.Inv) (hr : runsI s = true) (ht : edgeI v w s = .next t) :
    publishReach t = reachAfterIngest (pubLaunches s) (publishReach s) := by
  rw [edgeI_columns hr ht]
  exact requestReach_ingest s.pub_dirty h.one_publish_in_flight

theorem bucketReach_edgeI (h : s.Inv) (hr : runsI s = true) (ht : edgeI v w s = .next t) :
    bucketReach t = reachAfterIngest (bktLaunches s) (bucketReach s) := by
  rw [edgeI_columns hr ht]
  exact requestReach_ingest s.bkt_dirty h.one_bucket_in_flight

theorem publishReach_places (h : s.Inv) :
    (publishReach s = 1 ↔ s.pub_req ≠ s.preq_s1) ∧ (4 ≤ publishReach s ↔ s.pub_ack = s.pub_req) ∧
    (5 ≤ publishReach s ↔ s.pub_ack = s.pub_req ∧ s.pack_s1 = s.pub_req) ∧
    (publishReach s = 6 ↔ s.pack_s2 = s.pub_req) :=
  requestReach_places h.one_publish_in_flight

/-- A publish is launched only where the one before has come all the way round (rule R220). -/
theorem not_pubLaunches (h : s.Inv) (hlt : publishReach s < 6) : pubLaunches s = false := by
  obtain ⟨-, -, -, hend⟩ := publishReach_places h
  refine Bool.eq_false_iff.2 fun hl => hlt.ne (hend.2 ?_)
  exact ((pubLaunches_iff s).1 hl).2

/-- A waiting bucket is launched as soon as the one before has come all the way round (rule R226). -/
theorem bktLaunches_iff_reach (h : s.Inv) : bktLaunches s = true ↔ s.bkt_dirty = true ∧ bucketReach s = 6 := by
  obtain ⟨-, -, -, hend⟩ := requestReach_places h.one_bucket_in_flight
  rw [bktLaunches_iff, ← hend]
  rfl

/-- A publish on its way moves on at an edge of DOM_I, and no other is launched. -/
theorem edgeI_crossing (h : s.Inv) (hr : runsI s = true) (ht : edgeI v w s = .next t) (hlt : publishReach s < 6) :
    t.pub_req = s.pub_req ∧ publishReach t = if 4 ≤ publishReach s then publishReach s + 1 else publishReach s := by
  have hl := not_pubLaunches h hlt
  refine ⟨?_, ?_⟩
  · rw [edgeI_columns hr ht]
    simp [hl]
  · simp [publishReach_edgeI h hr ht, reachAfterIngest, hl, hlt]

/-- The event presents no SET_BUCKET. -/
def noSetBucket (e : Input) : Prop := ∀ b, presented e ≠ some (.setBucket b)

/-- Only SET_BUCKET writes the bucket and its mark (rules R224 and R225). -/
theorem exec_keeps_bucket {i : Instr} (hb : ∀ b, i ≠ .setBucket b) (ht : exec i s = .next t) :
    t.bucket_i = s.bucket_i ∧ t.bkt_dirty = s.bkt_dirty := by
  rcases exec_cases ht with ⟨-, rfl⟩ | ⟨v, -, -, rfl⟩ | ⟨v, -, -, ht⟩ | ⟨n, -, -, rfl⟩ | ⟨n, -, -, rfl⟩ | ⟨b, rfl, -⟩ |
    ⟨-, rfl⟩ | ⟨-, rfl⟩
  case inr.inr.inl =>
    obtain ⟨-, rfl⟩ := storeByte_eq_next.1 ht
    exact ⟨rfl, rfl⟩
  case inr.inr.inr.inr.inr.inl => exact absurd rfl (hb b)
  all_goals exact ⟨rfl, rfl⟩

/-- With no SET_BUCKET the launch alone writes the mark. -/
theorem edgeI_of_no_setBucket (hr : runsI s = true) (hb : noSetBucket (.clk_i v w)) (ht : edgeI v w s = .next t) :
    t.bucket_i = s.bucket_i ∧ t.bkt_dirty = if bktLaunches s then false else s.bkt_dirty := by
  rcases edgeI_cases ht with ⟨hreset, -⟩ | ⟨-, -, rfl⟩ | ⟨-, -, -, rfl⟩ | ⟨-, rfl, i, hw, ht⟩
  · exact absurd hr (ne_true_of_eq_false hreset)
  · exact ⟨rfl, rfl⟩
  · exact ⟨rfl, rfl⟩
  · exact exec_keeps_bucket (by rintro b rfl; exact hb b (by simp [presented, hw])) ht

end

/-! ## Runs of both domains, edge by edge -/

/-- The state meets the invariant and both domains are out of reset. -/
def running (s : State) : Prop := s.Inv ∧ runsI s = true ∧ runsR s = true

/-- What every edge takes from i clk_i edges and r clk_r edges to one more holds after a run of events that meet Q. -/
theorem feed_edges {Q : Input → Prop} {P : Nat → Nat → State → Prop}
    (hi : ∀ {i r v w s t}, running s → Q (.clk_i v w) → edgeI v w s = .next t → P i r s → P (i + 1) r t)
    (hr : ∀ {i r s}, running s → P i r s → P i (r + 1) (afterRender s))
    {l : List Input} {i r : Nat} {s : State} (h : running s) (hl : noReset l = true) (hq : ∀ e ∈ l, Q e)
    (hs : P i r s) :
    ∃ t, feed l s = .next t ∧ running t ∧ P (i + ingestEdges l) (r + renderEdges l) t := by
  induction l generalizing i r s with
  | nil => exact ⟨s, rfl, h, hs⟩
  | cons e l ih =>
    obtain ⟨he, hl⟩ := (noReset_cons e l).1 hl
    obtain ⟨hqe, hql⟩ := List.forall_mem_cons.1 hq
    have ⟨hinv, hri, hrr⟩ := h
    rcases event_noReset hinv hrr he with ⟨v, w, u, rfl, hedge, hu, hinv', hrr'⟩ | ⟨rfl, hu, hinv', hrr'⟩
    · obtain ⟨t, ht, hrest⟩ := ih ⟨hinv', (event_runsI_and_cfg hri he hu).1, hrr'⟩ hl hql (hi h hqe hedge hs)
      rw [ingestEdges_clk_i, renderEdges_clk_i, Nat.add_comm _ 1, ← Nat.add_assoc]
      exact ⟨t, feed_cons_eq_next.2 ⟨u, hu, ht⟩, hrest⟩
    · obtain ⟨t, ht, hrest⟩ := ih ⟨hinv', (event_runsI_and_cfg hri he hu).1, hrr'⟩ hl hql (hr h hs)
      rw [ingestEdges_clk_r, renderEdges_clk_r, Nat.add_comm _ 1, ← Nat.add_assoc]
      exact ⟨t, feed_cons_eq_next.2 ⟨_, hu, ht⟩, hrest⟩

theorem running_afterRender {s : State} (h : running s) : running (afterRender s) := by
  obtain ⟨hinv, hri, hrr⟩ := h
  exact ⟨hinv.renderStep_inv hrr (renderStep_eq_next.2 ⟨fun _ => hinv.k_in_frame, rfl⟩), hri, hrr⟩

/-! ## A publish crosses (rule R222) -/

/-- Request q is on its way to DOM_R, r clk_r edges after its launch, or at the third has just been acknowledged. -/
def crossesOut (q : Bool) (r : Nat) (s : State) : Prop :=
  (r < 3 → s.pub_req = q ∧ publishReach s = 1 + r) ∧ (r = 3 → s.pub_ack = q)

/-- Request q is on its way back to DOM_I, i clk_i edges after its acknowledge. -/
def crossesBack (q : Bool) (i : Nat) (s : State) : Prop := i < 3 → s.pub_req = q ∧ publishReach s = 4 + i

theorem crossesOut_edgeI {q : Bool} {r : Nat} {v : Bool} {w : Word} {s t : State} (h : running s)
    (ht : edgeI v w s = .next t) (hs : crossesOut q r s) : crossesOut q r t := by
  obtain ⟨hinv, hri, -⟩ := h
  obtain ⟨hway, hack⟩ := hs
  refine ⟨fun hr3 => ?_, fun hr3 => ?_⟩
  · obtain ⟨hq, hreach⟩ := hway hr3
    obtain ⟨hreq, hreach'⟩ := edgeI_crossing hinv hri ht (by omega)
    exact ⟨hreq.trans hq, by rw [hreach', if_neg (by omega), hreach]⟩
  · rw [edgeI_frame ht]
    exact hack hr3

theorem crossesOut_afterRender {q : Bool} {r : Nat} {s : State} (h : running s) (hs : crossesOut q r s) :
    crossesOut q (r + 1) (afterRender s) := by
  obtain ⟨hway, -⟩ := hs
  obtain ⟨hinv', -⟩ := running_afterRender h
  have hstep : r < 3 → (afterRender s).pub_req = q ∧ publishReach (afterRender s) = 1 + (r + 1) := fun hr3 => by
    obtain ⟨hq, hreach⟩ := hway hr3
    exact ⟨hq, by rw [publishReach_afterRender h.1, reachAfterRender, if_pos (by omega), hreach]; omega⟩
  refine ⟨fun hr3 => hstep (by omega), fun hr3 => ?_⟩
  obtain ⟨hq, hreach⟩ := hstep (by omega)
  obtain ⟨-, hack, -⟩ := publishReach_places hinv'
  exact (hack.1 (by omega)).trans hq

theorem crossesBack_edgeI {q : Bool} {i : Nat} {v : Bool} {w : Word} {s t : State} (h : running s)
    (ht : edgeI v w s = .next t) (hs : crossesBack q i s) : crossesBack q (i + 1) t := by
  obtain ⟨hinv, hri, -⟩ := h
  intro hi3
  obtain ⟨hq, hreach⟩ := hs (by omega)
  obtain ⟨hreq, hreach'⟩ := edgeI_crossing hinv hri ht (by omega)
  exact ⟨hreq.trans hq, by rw [hreach', if_pos (by omega), hreach]; omega⟩

theorem crossesBack_afterRender {q : Bool} {i : Nat} {s : State} (h : running s) (hs : crossesBack q i s) :
    crossesBack q i (afterRender s) := by
  intro hi3
  obtain ⟨hq, hreach⟩ := hs hi3
  exact ⟨hq, by rw [publishReach_afterRender h.1, reachAfterRender, if_neg (by omega), hreach]⟩

/-- Settles O35: the way out is counted in clk_r edges from place 1, and the way back in clk_i edges from place 4. -/
theorem publishCrossesInThreeAndThreeSteps : Obligations.PublishCrossesInThreeAndThreeSteps := by
  intro s l h hri hrr hl
  obtain ⟨hstart, hacked, hback, -⟩ := publishReach_places h
  refine ⟨fun hne => ?_, fun hack hne => ?_⟩
  · have hs : crossesOut s.pub_req 0 s := ⟨fun _ => ⟨rfl, hstart.2 hne⟩, nofun⟩
    obtain ⟨t, ht, ⟨hinv, -, -⟩, hway, hacked'⟩ := feed_edges (Q := fun _ => True) (i := 0)
      (P := fun _ => crossesOut s.pub_req) (fun h _ => crossesOut_edgeI h) crossesOut_afterRender ⟨h, hri, hrr⟩ hl
      (fun _ _ => trivial) hs
    rw [Nat.zero_add] at hway hacked'
    refine ⟨t, ht, fun hlt => ?_, hacked'⟩
    obtain ⟨hq, hreach⟩ := hway hlt
    obtain ⟨-, hacked, -⟩ := publishReach_places hinv
    exact ⟨fun hack => by have := hacked.2 (hack.trans hq.symm); omega, hq⟩
  · have hs : crossesBack s.pub_req 0 s := fun _ =>
      ⟨rfl, le_antisymm (by by_contra hgt; exact hne (hback.1 (by omega)).2) (hacked.2 hack)⟩
    obtain ⟨t, ht, ⟨hinv, -, -⟩, hway⟩ := feed_edges (Q := fun _ => True) (r := 0)
      (P := fun i _ => crossesBack s.pub_req i) (fun h _ => crossesBack_edgeI h) crossesBack_afterRender ⟨h, hri, hrr⟩
      hl (fun _ _ => trivial) hs
    rw [Nat.zero_add] at hway
    refine ⟨t, ht, fun hlt => (hway hlt).1, fun heq => ?_⟩
    obtain ⟨hq, hreach⟩ := hway (by omega)
    obtain ⟨-, -, -, hend⟩ := publishReach_places hinv
    exact (hend.1 (by omega)).trans hq

/-! ## The last bucket arrives (rule R230) -/

/-- Bucket b is the last one accepted, and it has been launched or the request before it has come as far as n. -/
def bucketWaits (b : Bucket) (n : Nat) (s : State) : Prop :=
  s.bucket_i = b ∧ (s.bkt_dirty = true → n ≤ bucketReach s)

/-- Bucket b is the last one accepted, it has been launched, and its request has come as far as n. -/
def bucketCrosses (b : Bucket) (n : Nat) (s : State) : Prop :=
  s.bucket_i = b ∧ s.bkt_dirty = false ∧ n ≤ bucketReach s

/-- A request comes no further back by a DOM_R step, and up to place 4 it comes on. -/
theorem min_le_reachAfterRender {n m : Nat} (h : min n 4 ≤ m) : min (n + 1) 4 ≤ reachAfterRender m := by
  unfold reachAfterRender
  split <;> omega

theorem bucketWaits_afterRender {b : Bucket} {r : Nat} {s : State} (h : running s)
    (hs : bucketWaits b (min (1 + r) 4) s) : bucketWaits b (min (1 + (r + 1)) 4) (afterRender s) := by
  obtain ⟨hb, hreach⟩ := hs
  exact ⟨hb, fun hd => by rw [bucketReach_afterRender h.1]; exact min_le_reachAfterRender (hreach hd)⟩

theorem bucketWaits_afterRender_of_acked {b : Bucket} {i : Nat} {s : State} (h : running s)
    (hs : bucketWaits b (4 + i) s) : bucketWaits b (4 + i) (afterRender s) := by
  obtain ⟨hb, hreach⟩ := hs
  refine ⟨hb, fun hd => ?_⟩
  have hge := hreach hd
  rwa [bucketReach_afterRender h.1, reachAfterRender, if_neg (by omega)]

theorem bucketCrosses_afterRender {b : Bucket} {r : Nat} {s : State} (h : running s)
    (hs : bucketCrosses b (min (1 + r) 4) s) : bucketCrosses b (min (1 + (r + 1)) 4) (afterRender s) := by
  obtain ⟨hb, hd, hreach⟩ := hs
  exact ⟨hb, hd, by rw [bucketReach_afterRender h.1]; exact min_le_reachAfterRender hreach⟩

theorem le_reachAfterIngest (n : Nat) : n ≤ reachAfterIngest false n := by
  rw [reachAfterIngest, if_neg Bool.false_ne_true]
  split <;> omega

/-- A bucket that still waits after an edge of DOM_I was not launched by it, so the request before it has not come all
the way round. -/
theorem bucketWaits_edgeI {b : Bucket} {n : Nat} {v : Bool} {w : Word} {s t : State} (h : running s)
    (hq : noSetBucket (.clk_i v w)) (ht : edgeI v w s = .next t) (hs : bucketWaits b n s) :
    bucketWaits b n t ∧ (4 ≤ n → bucketWaits b (n + 1) t) := by
  obtain ⟨hinv, hri, -⟩ := h
  obtain ⟨hb, hreach⟩ := hs
  obtain ⟨hbucket, hdirty⟩ := edgeI_of_no_setBucket hri hq ht
  have hwait : t.bkt_dirty = true → bktLaunches s = false ∧ s.bkt_dirty = true := fun hd => by
    rw [hdirty] at hd
    cases hl : bktLaunches s <;> simp_all
  have hcome : t.bkt_dirty = true → bucketReach t = reachAfterIngest false (bucketReach s) := fun hd => by
    rw [bucketReach_edgeI hinv hri ht, (hwait hd).1]
  refine ⟨⟨hbucket.trans hb, fun hd => ?_⟩, fun hn => ⟨hbucket.trans hb, fun hd => ?_⟩⟩
  · rw [hcome hd]
    exact (hreach (hwait hd).2).trans (le_reachAfterIngest _)
  · obtain ⟨hl, hds⟩ := hwait hd
    have hle : bucketReach s ≤ 6 := requestReach_le _
    have hne : bucketReach s ≠ 6 := fun h6 => ne_true_of_eq_false hl ((bktLaunches_iff_reach hinv).2 ⟨hds, h6⟩)
    have hge := hreach hds
    rw [hcome hd, reachAfterIngest, if_neg Bool.false_ne_true, if_pos (by omega)]
    omega

theorem bucketCrosses_edgeI {b : Bucket} {n : Nat} {v : Bool} {w : Word} {s t : State} (h : running s)
    (hq : noSetBucket (.clk_i v w)) (ht : edgeI v w s = .next t) (hs : bucketCrosses b n s) : bucketCrosses b n t := by
  obtain ⟨hinv, hri, -⟩ := h
  obtain ⟨hb, hd, hreach⟩ := hs
  obtain ⟨hbucket, hdirty⟩ := edgeI_of_no_setBucket hri hq ht
  have hl : bktLaunches s = false := by rw [bktLaunches, hd, Bool.false_and]
  refine ⟨hbucket.trans hb, by rw [hdirty, hl, hd]; rfl, ?_⟩
  rw [bucketReach_edgeI hinv hri ht, hl]
  exact hreach.trans (le_reachAfterIngest _)

/-- A bucket that has been launched and acknowledged is DOM_R's bucket (rule R228). -/
theorem bucket_r_of_bucketCrosses {b : Bucket} {s : State} (h : s.Inv) (hs : bucketCrosses b 4 s) : s.bucket_r = b := by
  obtain ⟨hb, hd, hreach⟩ := hs
  obtain ⟨-, hacked, -⟩ := requestReach_places h.one_bucket_in_flight
  exact ((h.bucket_captured (hacked.1 hreach)).trans (h.bucket_launched hd)).trans hb

/-- Settles O36: the first part of the run brings any request before the bucket's to its acknowledge, the second
launches the bucket, and the third brings its own request to the acknowledge. -/
theorem lastBucketArrives : Obligations.LastBucketArrives := by
  intro s l1 l2 l3 h hri hrr hl hq h1 h2 h3
  simp only [noReset_append, Bool.and_eq_true] at hl
  obtain ⟨⟨hl1, hl2⟩, hl3⟩ := hl
  obtain ⟨hq12, hq3⟩ := List.forall_mem_append.1 hq
  obtain ⟨hq1, hq2⟩ := List.forall_mem_append.1 hq12
  have hs : bucketWaits s.bucket_i (min (1 + 0) 4) s := ⟨rfl, fun _ => one_le_requestReach⟩
  obtain ⟨t1, ht1, hrun1, hb1, hreach1⟩ := feed_edges (Q := noSetBucket) (i := 0)
    (P := fun _ r => bucketWaits s.bucket_i (min (1 + r) 4)) (fun h hq ht hs => (bucketWaits_edgeI h hq ht hs).1)
    bucketWaits_afterRender ⟨h, hri, hrr⟩ hl1 hq1 hs
  have hs1 : bucketWaits s.bucket_i (4 + 0) t1 := ⟨hb1, fun hd => by have := hreach1 hd; omega⟩
  obtain ⟨t2, ht2, hrun2, hb2, hreach2⟩ := feed_edges (Q := noSetBucket) (r := 0)
    (P := fun i _ => bucketWaits s.bucket_i (4 + i))
    (fun h hq ht hs => (bucketWaits_edgeI h hq ht hs).2 (Nat.le_add_right 4 _)) bucketWaits_afterRender_of_acked hrun1
    hl2 hq2 hs1
  have hd2 : t2.bkt_dirty = false := Bool.eq_false_iff.2 fun hd => by
    have hge := hreach2 hd
    have hle : bucketReach t2 ≤ 6 := requestReach_le _
    omega
  have hs2 : bucketCrosses s.bucket_i (min (1 + 0) 4) t2 := ⟨hb2, hd2, one_le_requestReach⟩
  obtain ⟨t3, ht3, ⟨hinv3, -, hrr3⟩, hb3, hd3, hreach3⟩ := feed_edges (Q := noSetBucket) (i := 0)
    (P := fun _ r => bucketCrosses s.bucket_i (min (1 + r) 4)) bucketCrosses_edgeI bucketCrosses_afterRender hrun2 hl3
    hq3 hs2
  have hbucket : t3.bucket_r = s.bucket_i := bucket_r_of_bucketCrosses hinv3 ⟨hb3, hd3, by omega⟩
  refine ⟨t3, feed_append_eq_next.2 ⟨t2, feed_append_eq_next.2 ⟨t1, ht1, ht2⟩, ht3⟩, hbucket, fun hidle => ?_⟩
  exact ⟨afterRender t3, (event_clk_r_eq_next hrr3).2 ⟨fun _ => hinv3.k_in_frame, rfl⟩, (if_pos hidle).trans hbucket⟩

end Sys2Proof.Machine
end

section
/-! SUPPORT. The obligations of 60_exceptions.md: the one error that a word raises (rule R244), the flags that stay set
(rule R243), and that nothing traps or halts (rules R248 and R257). -/

namespace Sys2Proof.Machine

/-! ## The flag of each error cause (rules R240 to R243) -/

/-- The sticky flag that `raise` sets for the cause. -/
def errorFlag (cause : ErrorCause) (s : State) : Bool :=
  match cause with
  | .cmd => s.err_cmd
  | .arg => s.err_arg
  | .len => s.err_len

theorem errorFlag_raise (cause raised : ErrorCause) (s : State) :
    errorFlag cause (raise raised s) = true ↔ errorFlag cause s = true ∨ raised = cause := by
  cases cause <;> cases raised <;> simp [errorFlag, raise]

@[simp] theorem errorFlag_clearErrors (cause : ErrorCause) (s : State) : errorFlag cause (clearErrors s) = false := by
  cases cause <;> rfl

@[simp] theorem errorFlag_takeInput (cause : ErrorCause) (s : State) :
    errorFlag cause (takeInput s) = errorFlag cause s := by
  cases cause <;> simp [errorFlag]

/-! ## The error of a command and of a word (rule R244) -/

/-- The error that a command raises where a frame has n bytes (rules R240 and R242). -/
def commandError (n : Nat) : Instr → Option ErrorCause
  | .nop | .writeByte _ | .setBucket _ | .clearStatus => none
  | .submit len => if len.toNat = n then none else some .len
  | .reserved5 _ | .reserved6 _ | .reserved7 _ | .reserved8 _ | .reserved9 _ | .reservedA _ | .reservedB _
  | .reservedC _ | .reservedD _ | .reservedE _ | .reservedF _ => some .cmd

/-- The error that a word raises where a frame has n bytes: a rejected word's operands are not examined further
(rule R244). -/
def wordError (n : Nat) (w : Word) : Option ErrorCause :=
  match decode w with
  | .ok i => commandError n i
  | .error .badArg => some .arg

section
variable {n : Nat} {w : Word} {i : Instr}

theorem commandError_eq_cmd_iff : commandError n i = some .cmd ↔ 5 ≤ i.rowIndex.val := by
  cases i with
  | submit len => by_cases h : len.toNat = n <;> simp [commandError, Instr.rowIndex, h]
  | _ => simp [commandError, Instr.rowIndex]

theorem commandError_ne_arg : commandError n i ≠ some .arg := by
  cases i with
  | submit len => by_cases h : len.toNat = n <;> simp [commandError, h]
  | _ => simp [commandError]

theorem commandError_eq_len_iff : commandError n i = some .len ↔ ∃ len, i = .submit len ∧ len.toNat ≠ n := by
  cases i with
  | submit len => by_cases h : len.toNat = n <;> simp [commandError, h]
  | _ => simp [commandError]

theorem wordError_of_ok (h : decode w = .ok i) : wordError n w = commandError n i := by
  unfold wordError; rw [h]

theorem wordError_of_badArg (h : decode w = .error .badArg) : wordError n w = some .arg := by
  unfold wordError; rw [h]

/-- Exactly the reserved opcodes raise ERR_CMD: a command's own word has the number of its row as its opcode. -/
theorem wordError_eq_cmd_iff : wordError n w = some .cmd ↔ 5 ≤ (fieldOP w).toNat := by
  constructor
  · intro h
    cases hw : decode w with
    | error e => rw [wordError_of_badArg hw] at h; cases h
    | ok i =>
      rw [wordError_of_ok hw, commandError_eq_cmd_iff] at h
      have hrow := i.rowIndex.isLt
      rw [← encode_of_decode hw, fieldOP_encode, BitVec.toNat_ofNat]
      omega
  · intro h
    obtain ⟨i, hw, hrow⟩ := decode_of_reserved_opcode h
    rw [wordError_of_ok hw, commandError_eq_cmd_iff]
    exact hrow

theorem wordError_eq_arg_iff : wordError n w = some .arg ↔ decode w = .error .badArg := by
  cases hw : decode w with
  | error e => simp [wordError_of_badArg hw]
  | ok i => simp [wordError_of_ok hw, commandError_ne_arg]

theorem wordError_eq_len_iff :
    wordError n w = some .len ↔ ∃ len, decode w = .ok (.submit len) ∧ len.toNat ≠ n := by
  cases hw : decode w with
  | error e => simp [wordError_of_badArg hw]
  | ok i => simp [wordError_of_ok hw, commandError_eq_len_iff]

end

/-! ## What each step does to the flags (rules R243, R244 and R249) -/

section
variable {cause : ErrorCause} {s t : State}

/-- A command keeps the flags that are set, CLEAR_STATUS excepted, and sets its own error's. -/
theorem exec_errorFlag {i : Instr} (h : exec i s = .next t) : errorFlag cause t = true ↔
    i ≠ .clearStatus ∧ errorFlag cause s = true ∨ commandError s.cfg.N i = some cause := by
  rcases exec_cases h with ⟨rfl, rfl⟩ | ⟨v, rfl, -, rfl⟩ | ⟨v, rfl, -, h⟩ | ⟨n, rfl, hn, rfl⟩ | ⟨n, rfl, hn, rfl⟩ |
    ⟨b, rfl, rfl⟩ | ⟨rfl, rfl⟩ | ⟨hi, rfl⟩
  · simp [commandError]
  · simp [commandError, errorFlag]
  · obtain ⟨-, rfl⟩ := storeByte_eq_next.1 h
    simp [commandError, errorFlag]
  · simp [commandError, errorFlag, hn]
  · change errorFlag cause (raise .len { s with discard := n }) = true ↔ _
    rw [errorFlag_raise]
    simp [commandError, errorFlag, hn]
  · simp [commandError, errorFlag]
  · simp [commandError]
  · have hne : i ≠ .clearStatus := by rintro rfl; simp [Instr.rowIndex] at hi
    rw [errorFlag_raise, commandError_eq_cmd_iff.2 hi]
    simp [hne]

/-- From clear flags a word sets the flag of its one error and no other. -/
theorem commandWord_errorFlag {w : Word} (hs : errorFlag cause s = false) (h : commandWord w s = .next t) :
    errorFlag cause t = true ↔ wordError s.cfg.N w = some cause := by
  cases hw : decode w with
  | ok i =>
    rw [commandWord_of_ok hw] at h
    rw [exec_errorFlag h, wordError_of_ok hw, hs]
    simp
  | error e =>
    rw [commandWord_of_badArg hw] at h
    rw [← Host.Outcome.next.inj h, errorFlag_raise, wordError_of_badArg hw, hs]
    simp

theorem edgeI_keeps_errorFlag {v : Bool} {w : Word} (h : edgeI v w s = .next t)
    (hclear : presented (.clk_i v w) ≠ some .clearStatus) (hs : errorFlag cause s = true) :
    errorFlag cause t = true := by
  rcases edgeI_cases h with ⟨-, rfl⟩ | ⟨-, -, rfl⟩ | ⟨-, -, -, rfl⟩ | ⟨-, rfl, i, hw, h⟩
  · exact hs
  · exact hs
  · exact (errorFlag_raise _ _ _).2 (.inl hs)
  · have hi : i ≠ .clearStatus := by
      rintro rfl
      exact hclear (by simp [presented, hw])
    exact (exec_errorFlag h).2 (.inl ⟨hi, hs⟩)

/-- A DOM_R step writes no clk_i register, and a release of reset only raises rst_n. -/
theorem event_keeps_errorFlag {e : Input} (h : event e s = .next t) (hreset : e ≠ .rst_n false)
    (hclear : presented e ≠ some .clearStatus) (hs : errorFlag cause s = true) : errorFlag cause t = true := by
  rcases event_cases h with ⟨v, w, rfl, h⟩ | ⟨-, h⟩ | ⟨-, rfl⟩ | ⟨he, -⟩
  · exact edgeI_keeps_errorFlag h hclear hs
  · rcases edgeR_cases h with ⟨-, rfl⟩ | ⟨-, h⟩
    · exact hs
    · rw [renderStep_frame h]
      exact hs
  · exact hs
  · exact absurd he hreset

end

/-- Settles O22: a word has at most one error, and from clear flags it sets exactly that error's flag. -/
theorem eachWordRaisesItsOwnError : Obligations.EachWordRaisesItsOwnError := by
  intro w s t hcmd harg hlen h
  exact ⟨(commandWord_errorFlag (cause := .cmd) hcmd h).trans wordError_eq_cmd_iff,
    (commandWord_errorFlag (cause := .arg) harg h).trans wordError_eq_arg_iff,
    (commandWord_errorFlag (cause := .len) hlen h).trans wordError_eq_len_iff⟩

/-- Settles O23: taking the input writes no flag, and the event keeps each flag that is set. -/
theorem errorFlagsAreSticky : Obligations.ErrorFlagsAreSticky := by
  intro s t h hreset hclear
  have hkeeps (cause : ErrorCause) (hs : errorFlag cause s = true) : errorFlag cause t = true :=
    event_keeps_errorFlag h hreset hclear ((errorFlag_takeInput cause s).trans hs)
  exact ⟨hkeeps .cmd, hkeeps .arg, hkeeps .len⟩

/-! ## Nothing traps and nothing halts (rules R248 and R257) -/

/-- Settles O52: taking the input keeps the invariant, under which every event has a next state. -/
theorem blockNeverStops : Obligations.BlockNeverStops :=
  fun s h => exists_event_eq_next h.takeInput_inv (nextInput s)

end Sys2Proof.Machine
end

section
/-! SUPPORT. The obligations of 70_reset_and_hazards.md: the assertion of rst_n (rule R270), the dark panel until a frame
is written (rule R275), and the bound within which a publish is launched and copied (rules R276 and R278). -/

namespace Sys2Proof.Machine

/-! ## The assertion of rst_n (rules R270 and R271) -/

/-- Settles O9: the registers are those of the state right after reset, and so are the pins and the status word. -/
theorem resetAssertionClearsBothDomains : Obligations.ResetAssertionClearsBothDomains := fun s =>
  ⟨assertReset s, rfl, ingestAtReset_resetOf s.cfg, renderAtReset_resetOf s.cfg, rfl, rfl, rfl, rfl,
    status_resetOf s.cfg, rfl, rfl⟩

/-! ## Dark until a frame is written (rule R275) -/

/-- Every byte of `current` is 0x00 once INIT has ended (10_state.md rule R56). -/
def clearedByInit (s : State) : Prop := s.st ≠ .init → ∀ a, a < s.cfg.N → s.current.read a = 0

/-- No publish has been made since reset, and INIT has cleared `current` or is still at it. -/
def dark (s : State) : Prop := s.Inv ∧ neverPublished s ∧ clearedByInit s

/-- The memories may hold anything at reset. -/
theorem dark_resetOf {c : Config} {m m' : Memory} (hm : m.wf = true) (hmN : m.below c.N = true) (hm' : m'.wf = true)
    (hmN' : m'.below c.N = true) : dark { State.resetOf c with next := m, current := m' } :=
  ⟨{ resetMeetsTheInvariant c with
      next_canonical := hm
      next_in_frame := hmN
      current_canonical := hm'
      current_in_frame := hmN'
      init_cleared := fun _ a ha => absurd ha (Nat.not_lt_zero a) },
    neverPublished_assertReset (.resetOf c), fun hs => absurd rfl hs⟩

/-- Only WRITE_BYTE publishes (43_commands.md rule R213). -/
theorem neverPublished_exec {i : Instr} {s t : State} (hi : ∀ val, i ≠ .writeByte val) (h : neverPublished s)
    (ht : exec i s = .next t) : neverPublished t := by
  obtain ⟨hdirty, hring, hpend, hst⟩ := h
  obtain ⟨-, hdirty'⟩ := exec_keeps_next_and_pub_dirty ht fun val hval => absurd hval (hi val)
  refine ⟨hdirty'.trans hdirty, ?_⟩
  rw [exec_frame ht]
  exact ⟨hring, hpend, hst⟩

theorem neverPublished_edgeI {v : Bool} {w : Word} {s t : State}
    (hw : ∀ val, presented (.clk_i v w) ≠ some (.writeByte val)) (h : neverPublished s)
    (ht : edgeI v w s = .next t) : neverPublished t := by
  rcases edgeI_cases ht with ⟨-, rfl⟩ | ⟨-, -, rfl⟩ | ⟨-, -, -, rfl⟩ | ⟨-, rfl, i, hdec, ht⟩
  · exact h
  · exact neverPublished_ingestParts h
  · exact neverPublished_ingestParts h
  · refine neverPublished_exec ?_ (neverPublished_ingestParts h) ht
    rintro val rfl
    exact hw val (by simp [presented, hdec])

/-- INIT's last step clears the last byte, and without a COPY nothing else writes `current` (40_frame_store.md rules
R135 and R136). -/
theorem clearedByInit_afterRender {s : State} (h : s.Inv) (hc : s.st ≠ .copy) (hs : clearedByInit s) :
    clearedByInit (afterRender s) := by
  intro hst a ha
  have hread : (afterRender s).current.read a = (nextCurrent s).read a := rfl
  rw [hread]
  by_cases hi : s.st = .init
  · have hend : kAtEnd s = true := by
      by_contra hk
      exact hst (by rw [afterRender_st, nextPlace_init hi, if_neg hk])
    have hk := (kAtEnd_iff s).1 hend
    have ha : a < s.cfg.N := ha
    rw [nextCurrent_eq_write (.inr hi), if_neg hc]
    exact Memory.read_write_zero_below_succ h.current_canonical (h.init_cleared hi) a (by omega)
  · rw [nextCurrent_eq_current ⟨hi, hc⟩]
    exact hs hi a ha

theorem dark_event {e : Input} {s t : State} (he : ∀ val, presented e ≠ some (.writeByte val)) (h : dark s)
    (ht : event e s = .next t) : dark t := by
  obtain ⟨hinv, hpub, hclear⟩ := h
  refine ⟨hinv.event_inv ht, ?_⟩
  rcases event_cases ht with ⟨v, w, rfl, ht⟩ | ⟨-, ht⟩ | ⟨-, rfl⟩ | ⟨-, rfl⟩
  · refine ⟨neverPublished_edgeI he hpub ht, ?_⟩
    rw [edgeI_frame ht]
    exact hclear
  · rcases edgeR_cases ht with ⟨-, rfl⟩ | ⟨-, ht⟩
    · exact ⟨hpub, hclear⟩
    · obtain ⟨-, rfl⟩ := renderStep_eq_next.1 ht
      have ⟨_, _, _, hst⟩ := hpub
      exact ⟨neverPublished_afterRender hpub, clearedByInit_afterRender hinv hst hclear⟩
  · exact ⟨hpub, hclear⟩
  · exact ⟨neverPublished_assertReset s, fun hs => absurd rfl hs⟩

/-- No event changes the configuration (10_state.md rule R51). -/
theorem event_cfg {e : Input} {s t : State} (h : event e s = .next t) : t.cfg = s.cfg := by
  rcases event_cases h with ⟨v, w, -, h⟩ | ⟨-, h⟩ | ⟨-, rfl⟩ | ⟨-, rfl⟩
  · rw [edgeI_frame h]
  · rcases edgeR_cases h with ⟨-, rfl⟩ | ⟨-, h⟩
    · rfl
    · exact renderStep_cfg h
  · rfl
  · rfl

/-- The panel stays dark all along a run without a WRITE_BYTE, resets included. -/
theorem dark_feed {l : List Input} {s : State} (hl : ∀ e ∈ l, ∀ val, presented e ≠ some (.writeByte val))
    (h : dark s) : ∃ t, feed l s = .next t ∧ dark t ∧ t.cfg = s.cfg := by
  induction l generalizing s with
  | nil => exact ⟨s, rfl, h, rfl⟩
  | cons e l ih =>
    obtain ⟨he, hl⟩ := List.forall_mem_cons.1 hl
    have ⟨hinv, _⟩ := h
    obtain ⟨u, hu⟩ := exists_event_eq_next hinv e
    obtain ⟨t, ht, hdark, hcfg⟩ := ih hl (dark_event he h hu)
    exact ⟨t, feed_cons_eq_next.2 ⟨u, hu, ht⟩, hdark, hcfg.trans (event_cfg hu)⟩

theorem pins_RGB_of_dark {s : State} (h : dark s) : (pins s).RGB = 0 := by
  obtain ⟨hinv, -, hclear⟩ := h
  by_cases hs : s.st = .scan
  · exact zeroAndUniformFrames.1 s hinv (hclear (by simp [hs]))
  · rw [pins_of_ne_scan hs]

/-- Settles O59: right after reset the panel is dark, and with no WRITE_BYTE it stays so. -/
theorem darkUntilAFrameIsWritten : Obligations.DarkUntilAFrameIsWritten := by
  intro c m m' l hm hmN hm' hmN' hl
  obtain ⟨t, ht, hdark, hcfg⟩ := dark_feed hl (dark_resetOf hm hmN hm' hmN')
  have ⟨_, ⟨_, _, _, hst⟩, hclear⟩ := hdark
  have hcfg : t.cfg = c := hcfg
  exact ⟨t, ht, hst, pins_RGB_of_dark hdark, hcfg ▸ hclear⟩

/-! ## The way to the next IDLE (42_scan.md rules R187 and R189) -/

/-- IDLE is n clk_r edges away: INIT has n bytes to clear, or the pass has n cycles to go. -/
def idleIn (n : Nat) (s : State) : Prop :=
  (s.st = .init ∧ s.k.toNat + n = s.cfg.N) ∨ (s.st = .idle ∧ n = 0) ∨
    ∃ b take m, 1 ≤ m ∧ inPass s.cfg b take m s ∧ m + n = passLength s.cfg b take

/-- IDLE is never further away than at the start of the longest pass's COPY. -/
theorem exists_idleIn {s : State} (h : s.Inv) : ∃ n, n ≤ passLength s.cfg 7 true - 1 ∧ idleIn n s := by
  have hN : 1 + s.cfg.N ≤ passLength s.cfg 7 true := Nat.le_add_right ..
  have hpass {b : Bucket} {take : Bool} {m : Nat} (hm : 1 ≤ m) (hlt : m < passLength s.cfg b take)
      (hin : inPass s.cfg b take m s) : ∃ n, n ≤ passLength s.cfg 7 true - 1 ∧ idleIn n s := by
    have hmax := passLength_le_longest s.cfg b take
    exact ⟨passLength s.cfg b take - m, by omega, .inr (.inr ⟨b, take, m, hm, hin, by omega⟩)⟩
  have hk := h.k_in_frame
  cases hst : s.st with
  | init => exact ⟨s.cfg.N - s.k.toNat, by omega, .inl ⟨hst, by omega⟩⟩
  | idle => exact ⟨0, Nat.zero_le _, .inr (.inl ⟨hst, rfl⟩)⟩
  | copy =>
    have hlong : 1 + s.cfg.N ≤ passLength s.cfg s.pass_bucket true := Nat.le_add_right ..
    exact hpass (Nat.le_add_right 1 _) (by omega) ⟨rfl, .inr (.inl ⟨hst, rfl, rfl, rfl⟩)⟩
  | scan =>
    have hstart := scanStart_le_slotStart (c := s.cfg) (b := s.pass_bucket) (take := false) s.p s.r.toNat
    have hpos := scanStart_pos (c := s.cfg) (take := false)
    exact hpass (take := false) (by omega) (slotStart_add_lt_passLength h.row_in_range (h.j_in_slot hst))
      ⟨rfl, .inr (.inr (.inl ⟨hst, rfl, rfl⟩))⟩

theorem idleIn_edgeI {n : Nat} {v : Bool} {w : Word} {s t : State} (ht : edgeI v w s = .next t) (hs : idleIn n s) :
    idleIn n t := by
  rw [edgeI_frame ht]; exact hs

theorem idle_of_idleIn_zero {s : State} (h : s.Inv) (hs : idleIn 0 s) : s.st = .idle := by
  rcases hs with ⟨-, hk⟩ | ⟨hst, -⟩ | ⟨b, take, m, -, hin, hm⟩
  · have := h.k_in_frame
    omega
  · exact hst
  · exact (inPass_idle_iff h hin).2 (.inr hm)

theorem ne_idle_of_idleIn_succ {n : Nat} {s : State} (h : s.Inv) (hs : idleIn (n + 1) s) : s.st ≠ .idle := by
  rcases hs with ⟨hst, -⟩ | ⟨-, hn⟩ | ⟨b, take, m, hpos, hin, hm⟩
  · simp [hst]
  · cases hn
  · rw [ne_eq, inPass_idle_iff h hin]
    omega

/-- A clk_r edge brings IDLE nearer (40_frame_store.md rules R134 and R135, 42_scan.md rule R176). -/
theorem idleIn_afterRender {n : Nat} {s : State} (h : s.Inv) (hs : idleIn (n + 1) s) : idleIn n (afterRender s) := by
  rcases hs with ⟨hst, hk⟩ | ⟨-, hn⟩ | ⟨b, take, m, hpos, hin, hm⟩
  · by_cases hend : kAtEnd s = true
    · have hk' := (kAtEnd_iff s).1 hend
      have hidle : (afterRender s).st = .idle := by rw [afterRender_st, nextPlace_init hst, if_pos hend]
      exact .inr (.inl ⟨hidle, by omega⟩)
    · have hplace : nextPlace s = ⟨.init, s.k + 1, s.p, s.r, s.j⟩ := by rw [nextPlace_init hst, if_neg hend]
      refine .inl ⟨by rw [afterRender_st, hplace], ?_⟩
      rw [afterRender_k, hplace, k_succ_toNat h.k_in_frame, afterRender_cfg]
      omega
  · cases hn
  · have hnext := inPass_step h (by omega) hin
    exact .inr (.inr ⟨b, take, m + 1, Nat.le_add_left 1 m, hnext, show m + 1 + n = passLength s.cfg b take by omega⟩)

/-! ## IDLE takes a publish that is there (40_frame_store.md rules R131 and R133) -/

/-- Only IDLE consumes a publish that is pending or arrives. -/
theorem swapTaken_afterRender {s : State} (hs : s.st ≠ .idle) (ht : swapTaken s = true) :
    swapTaken (afterRender s) = true :=
  (swapTaken_iff _).2 (.inl (by rw [afterRender_pend_r, decide_eq_true hs, ht]; rfl))

/-- A COPY begins after n clk_r edges, the last of them the IDLE step that takes the publish. -/
def copyBeginsIn : Nat → State → Prop
  | 0, s => s.st = .copy ∧ s.k = 0
  | n + 1, s => swapTaken s = true ∧ idleIn n s

theorem copyBeginsIn_edgeI {n : Nat} {v : Bool} {w : Word} {s t : State} (ht : edgeI v w s = .next t)
    (hs : copyBeginsIn n s) : copyBeginsIn n t := by
  rw [edgeI_frame ht]
  cases n with
  | zero => exact hs
  | succ n => exact hs

theorem copyBeginsIn_afterRender {n : Nat} {s : State} (h : s.Inv) (hs : copyBeginsIn (n + 1) s) :
    copyBeginsIn n (afterRender s) := by
  obtain ⟨htake, hidle⟩ := hs
  cases n with
  | zero =>
    have hplace : nextPlace s = ⟨.copy, 0, s.p, s.r, s.j⟩ := by
      rw [nextPlace_idle (idle_of_idleIn_zero h hidle), if_pos htake]
    exact ⟨by rw [afterRender_st, hplace], by rw [afterRender_k, hplace]⟩
  | succ n => exact ⟨swapTaken_afterRender (ne_idle_of_idleIn_succ h hidle) htake, idleIn_afterRender h hidle⟩

/-- A run of that many clk_r edges leads to the beginning of the COPY, whatever clk_i does. -/
theorem feed_copyBeginsIn {l : List Input} {s : State} (h : s.Inv) (hr : runsR s = true) (hl : noReset l = true)
    (hs : copyBeginsIn (renderEdges l) s) :
    ∃ u, feed l s = .next u ∧ u.Inv ∧ runsR u = true ∧ u.st = .copy ∧ u.k = 0 := by
  have hstep {n : Nat} {s : State} (h : s.Inv) (hn : n < renderEdges l) (hs : copyBeginsIn (renderEdges l - n) s) :
      copyBeginsIn (renderEdges l - (n + 1)) (afterRender s) := by
    have hleft : renderEdges l - n = renderEdges l - (n + 1) + 1 := by omega
    exact copyBeginsIn_afterRender h (hleft ▸ hs)
  obtain ⟨u, hu, hinv, hru, hbegin⟩ := feed_cycles (P := fun n => copyBeginsIn (renderEdges l - n)) copyBeginsIn_edgeI
    hstep h hr hl (Nat.zero_add _).le hs
  rw [Nat.zero_add, Nat.sub_self] at hbegin
  exact ⟨u, hu, hinv, hru, hbegin⟩

/-- A COPY that begins ends after N clk_r edges (40_frame_store.md rule R134). -/
theorem feed_copy {l : List Input} {u : State} (h : u.Inv) (hr : runsR u = true) (hst : u.st = .copy) (hk : u.k = 0)
    (hl : noReset l = true) (hN : renderEdges l = u.cfg.N) : ∃ t, feed l u = .next t ∧ t.st = .scan := by
  obtain ⟨t, ht, hscan, -⟩ := copyReadsEachByteAtItsStep u l h hr hst hk hl hN
  exact ⟨t, ht, hscan⟩

/-! ## From the launch to the end of the COPY (rules R276 and R278) -/

theorem exists_append_renderEdges {l : List Input} {n : Nat} (h : n ≤ renderEdges l) :
    ∃ l1 l2, l = l1 ++ l2 ∧ renderEdges l1 = n := by
  induction l generalizing n with
  | nil => exact ⟨[], [], rfl, (Nat.le_zero.1 h).symm⟩
  | cons e l ih =>
    have hcons (m : List Input) : renderEdges (e :: m) = renderEdges [e] + renderEdges m := renderEdges_append [e] m
    have hone : renderEdges [e] ≤ 1 := List.countP_le_length
    rw [hcons] at h
    rcases Nat.lt_or_ge n (renderEdges [e]) with hlt | hge
    · exact ⟨[], e :: l, rfl, (by omega : 0 = n)⟩
    · obtain ⟨l1, l2, rfl, hl1⟩ := ih (n := n - renderEdges [e]) (by omega)
      exact ⟨e :: l1, l2, rfl, by rw [hcons]; omega⟩

theorem running_edgeI {v : Bool} {w : Word} {s t : State} (h : running s) (ht : edgeI v w s = .next t) :
    running t := by
  obtain ⟨hinv, hri, hrr⟩ := h
  obtain ⟨hri', -⟩ := event_runsI_and_cfg (e := .clk_i v w) hri nofun ht
  exact ⟨hinv.edgeI_inv ht, hri', by rw [edgeI_frame ht]; exact hrr⟩

/-- Both domains stay out of reset in a run without a change of rst_n. -/
theorem feed_running {l : List Input} {s t : State} (h : running s) (hl : noReset l = true)
    (ht : feed l s = .next t) : running t := by
  obtain ⟨u, hu, hrun, -⟩ := feed_edges (Q := fun _ => True) (P := fun _ _ _ => True) (i := 0) (r := 0)
    (fun _ _ _ _ => trivial) (fun _ _ => trivial) h hl (fun _ _ => trivial) trivial
  exact Host.Outcome.next.inj (hu.symm.trans ht) ▸ hrun

/-- A publish whose request has come to the third place arrives at the next DOM_R step. -/
theorem swapTaken_of_publishReach_eq_three {s : State} (h : s.Inv) (hs : publishReach s = 3) : swapTaken s = true := by
  have hring {req s1 s2 ack a1 a2 : Bool} (hflip : atMostOneFlip [req, s1, s2, ack, a1, a2] = true)
      (hreach : requestReach [req, s1, s2, ack, a1, a2] = 3) : s2 ≠ ack := by
    revert req s1 s2 ack a1 a2
    decide
  exact (swapTaken_iff s).2 (.inr (hring h.one_publish_in_flight hs))

/-- Two clk_r edges after its launch a publish has arrived (rule R276). -/
theorem feed_launch_swapTaken {v : Bool} {w : Word} {l : List Input} {s : State} (h : running s)
    (hlaunch : pubLaunches s = true) (hl : noReset l = true) (hn : renderEdges l = 2) :
    ∃ t, feed (.clk_i v w :: l) s = .next t ∧ running t ∧ t.cfg = s.cfg ∧ swapTaken t = true := by
  have ⟨hinv, hri, _⟩ := h
  obtain ⟨u, hu⟩ := exists_edgeI_eq_next v w hinv.cursor_in_frame
  have hreach : publishReach u = 1 := by rw [publishReach_edgeI hinv hri hu, hlaunch]; rfl
  obtain ⟨t, ht, hrun, hway, -⟩ := feed_edges (Q := fun _ => True) (i := 0) (r := 0)
    (P := fun _ => crossesOut u.pub_req) (fun h _ => crossesOut_edgeI h) crossesOut_afterRender (running_edgeI h hu) hl
    (fun _ _ => trivial) ⟨fun _ => ⟨rfl, hreach⟩, nofun⟩
  obtain ⟨-, hreach'⟩ := hway (by omega)
  have hrun' : feed (.clk_i v w :: l) s = .next t := feed_cons_eq_next.2 ⟨u, hu, ht⟩
  have hl' : noReset (.clk_i v w :: l) = true := (noReset_cons _ _).2 ⟨nofun, hl⟩
  obtain ⟨-, hcfg⟩ := feed_runsI_and_cfg hri hl' hrun'
  have ⟨hinvt, _⟩ := hrun
  exact ⟨t, hrun', hrun, hcfg, swapTaken_of_publishReach_eq_three hinvt (by omega)⟩

/-- After the event e, the launch of a publish, the run has a COPY from byte 0 on that begins after the publish has
arrived and ends within the bound of rule R278. -/
def copiedInTime (s : State) (e : Input) (l : List Input) : Prop :=
  ∃ (l1 l2 l3 : List Input) (u t : State), l = l1 ++ l2 ++ l3 ∧ 3 ≤ renderEdges l1 ∧
    renderEdges l1 + renderEdges l2 ≤ 3 + (passLength s.cfg 7 true - 1) + s.cfg.N ∧ renderEdges l2 = s.cfg.N ∧
    feed (e :: l1) s = .next u ∧ u.st = .copy ∧ u.k = 0 ∧ feed l2 u = .next t ∧ t.st = .scan

/-- The publish arrives, IDLE takes it, and the COPY runs to its end. -/
theorem copiedInTime_of_launch {v : Bool} {w : Word} {l : List Input} {s : State} (h : running s)
    (hlaunch : pubLaunches s = true) (hl : noReset l = true)
    (hn : 3 + (passLength s.cfg 7 true - 1) + s.cfg.N ≤ renderEdges l) : copiedInTime s (.clk_i v w) l := by
  obtain ⟨arrive, l, rfl, harrive⟩ := exists_append_renderEdges (n := 2) (l := l) (by omega)
  rw [noReset_append, Bool.and_eq_true] at hl
  rw [renderEdges_append] at hn
  obtain ⟨hla, hl⟩ := hl
  obtain ⟨s', hs', ⟨hinv, hri, hrr⟩, hcfg, htake⟩ := feed_launch_swapTaken (v := v) (w := w) h hlaunch hla harrive
  obtain ⟨n, hbound, hidle⟩ := exists_idleIn hinv
  rw [hcfg] at hbound
  obtain ⟨wait, l, rfl, hwait⟩ := exists_append_renderEdges (n := n + 1) (l := l) (by omega)
  rw [noReset_append, Bool.and_eq_true] at hl
  rw [renderEdges_append] at hn
  obtain ⟨hlw, hl⟩ := hl
  obtain ⟨u, hu, hinvu, hrru, hst, hk⟩ := feed_copyBeginsIn hinv hrr hlw (hwait ▸ ⟨htake, hidle⟩)
  obtain ⟨-, hcfgu⟩ := feed_runsI_and_cfg hri hlw hu
  obtain ⟨copy, rest, rfl, hcopy⟩ := exists_append_renderEdges (n := s.cfg.N) (l := l) (by omega)
  rw [noReset_append, Bool.and_eq_true] at hl
  obtain ⟨hlc, -⟩ := hl
  obtain ⟨t, ht, hscan⟩ := feed_copy hinvu hrru hst hk hlc (by rw [hcopy, hcfgu, hcfg])
  refine ⟨arrive ++ wait, copy, rest, u, t, by simp only [List.append_assoc], ?_, ?_, hcopy, ?_, hst, hk, ht, hscan⟩
  · rw [renderEdges_append]; omega
  · rw [renderEdges_append]; omega
  · exact feed_append_eq_next.2 ⟨s', hs', hu⟩

/-- Settles O57: with no transfer outstanding the next clk_i edge is the launch. -/
theorem publishIsCopiedInTime : Obligations.PublishIsCopiedInTime := by
  intro s v w l h hri hrr hd hstill hl hn
  exact copiedInTime_of_launch ⟨h, hri, hrr⟩ ((pubLaunches_iff s).2 ⟨hd, hstill⟩) hl hn

/-! ## Every publish is launched (rule R276, 43_commands.md rules R220 and R222) -/

/-- At an edge of the run a publish is launched, request q being the one before it. -/
def launchesIn (q : Bool) (l : List Input) (s : State) : Prop :=
  ∃ (before after : List Input) (v : Bool) (w : Word) (launch : State), l = before ++ .clk_i v w :: after ∧
    feed before s = .next launch ∧ pubLaunches launch = true ∧ launch.pub_req = q

section
variable {q : Bool} {l m : List Input} {s t : State}

theorem launchesIn_append_left (h : launchesIn q l s) : launchesIn q (l ++ m) s := by
  obtain ⟨before, after, v, w, launch, rfl, hrest⟩ := h
  exact ⟨before, after ++ m, v, w, launch, by rw [List.append_assoc, List.cons_append], hrest⟩

theorem launchesIn_append_right (hrun : feed l s = .next t) (h : launchesIn q m t) : launchesIn q (l ++ m) s := by
  obtain ⟨before, after, v, w, launch, rfl, hlaunch, hrest⟩ := h
  exact ⟨l ++ before, after, v, w, launch, (List.append_assoc ..).symm, feed_append_eq_next.2 ⟨t, hrun, hlaunch⟩, hrest⟩

theorem launchesIn_cons {e : Input} (he : event e s = .next t) (h : launchesIn q l t) : launchesIn q (e :: l) s :=
  launchesIn_append_right (l := [e]) ((feed_singleton e s).trans he) h

end

/-- No command takes a waiting publish back (43_commands.md rule R238). -/
theorem exec_keeps_waiting {i : Instr} {s t : State} (h : exec i s = .next t) (hd : s.pub_dirty = true) :
    t.pub_dirty = true := by
  rcases exec_cases h with ⟨-, rfl⟩ | ⟨v, -, -, rfl⟩ | ⟨v, -, -, h⟩ | ⟨n, -, -, rfl⟩ | ⟨n, -, -, rfl⟩ | ⟨b, -, rfl⟩ |
    ⟨-, rfl⟩ | ⟨-, rfl⟩
  case inr.inr.inl =>
    obtain ⟨-, rfl⟩ := storeByte_eq_next.1 h
    show (if cursorAtEnd s then true else s.pub_dirty) = true
    rw [hd, ite_self]
  all_goals exact hd

/-- A waiting publish that is not launched waits on. -/
theorem edgeI_keeps_waiting {v : Bool} {w : Word} {s t : State} (hr : runsI s = true) (hl : pubLaunches s = false)
    (ht : edgeI v w s = .next t) (hd : s.pub_dirty = true) : t.pub_dirty = true ∧ t.pub_req = s.pub_req := by
  have hparts : (ingestParts s).pub_dirty = true := by simp [hl, hd]
  refine ⟨?_, by rw [edgeI_columns hr ht]; simp [hl]⟩
  rcases edgeI_cases ht with ⟨hreset, -⟩ | ⟨-, -, rfl⟩ | ⟨-, -, -, rfl⟩ | ⟨-, -, i, -, ht⟩
  · exact absurd hr (ne_true_of_eq_false hreset)
  · exact hparts
  · exact hparts
  · exact exec_keeps_waiting ht hparts

/-- A waiting publish is launched as soon as the one before has come all the way round (43_commands.md rule R220). -/
theorem pubLaunches_iff_reach {s : State} (h : s.Inv) :
    pubLaunches s = true ↔ s.pub_dirty = true ∧ publishReach s = 6 := by
  obtain ⟨-, -, -, hend⟩ := publishReach_places h
  rw [pubLaunches_iff, hend]

theorem le_reachAfterRender (n : Nat) : n ≤ reachAfterRender n := by
  unfold reachAfterRender
  split <;> omega

/-- From its acknowledge until it has come all the way round a request comes on at each clk_i edge. -/
theorem succ_le_reachAfterIngest {n m : Nat} (hn : 4 ≤ n) (hm : m < 6) (h : n ≤ m) :
    n + 1 ≤ reachAfterIngest false m := by
  rw [reachAfterIngest, if_neg Bool.false_ne_true, if_pos (by omega)]
  omega

/-- A publish waits, and request q before it has come as far as n. -/
def publishWaits (q : Bool) (n : Nat) (s : State) : Prop :=
  s.pub_dirty = true ∧ s.pub_req = q ∧ n ≤ publishReach s

/-- While a publish waits and is not launched, the request before it comes on at each edge. After i clk_i edges and r
clk_r edges it has come as far as `n i r`. -/
theorem feed_publishWaits {n : Nat → Nat → Nat}
    (hi : ∀ {i r m}, m < 6 → n i r ≤ m → n (i + 1) r ≤ reachAfterIngest false m)
    (hr : ∀ {i r m}, n i r ≤ m → n i (r + 1) ≤ reachAfterRender m)
    {q : Bool} {l : List Input} {i r : Nat} {s : State} (h : running s) (hl : noReset l = true)
    (hno : ¬launchesIn q l s) (hs : publishWaits q (n i r) s) :
    ∃ t, feed l s = .next t ∧ running t ∧ publishWaits q (n (i + ingestEdges l) (r + renderEdges l)) t := by
  induction l generalizing i r s with
  | nil => exact ⟨s, rfl, h, hs⟩
  | cons e l ih =>
    obtain ⟨he, hl⟩ := (noReset_cons e l).1 hl
    have ⟨hinv, hri, hrr⟩ := h
    obtain ⟨hd, hq, hreach⟩ := hs
    rcases event_noReset hinv hrr he with ⟨v, w, u, rfl, hedge, hu, -⟩ | ⟨rfl, hu, -⟩
    · have hl' : pubLaunches s = false := Bool.eq_false_iff.2 fun hlaunch => hno ⟨[], l, v, w, s, rfl, rfl, hlaunch, hq⟩
      have hne : publishReach s ≠ 6 := fun h6 => ne_true_of_eq_false hl' ((pubLaunches_iff_reach hinv).2 ⟨hd, h6⟩)
      have hle : publishReach s ≤ 6 := requestReach_le _
      obtain ⟨hd', hreq⟩ := edgeI_keeps_waiting hri hl' hedge hd
      have hreach' : n (i + 1) r ≤ publishReach u := by
        rw [publishReach_edgeI hinv hri hedge, hl']
        exact hi (by omega) hreach
      obtain ⟨t, ht, hrest⟩ := ih (running_edgeI h hedge) hl (fun hlaunch => hno (launchesIn_cons hu hlaunch))
        ⟨hd', hreq.trans hq, hreach'⟩
      rw [ingestEdges_clk_i, renderEdges_clk_i, Nat.add_comm _ 1, ← Nat.add_assoc]
      exact ⟨t, feed_cons_eq_next.2 ⟨u, hu, ht⟩, hrest⟩
    · have hreach' : n i (r + 1) ≤ publishReach (afterRender s) := by
        rw [publishReach_afterRender hinv]
        exact hr hreach
      obtain ⟨t, ht, hrest⟩ := ih (running_afterRender h) hl (fun hlaunch => hno (launchesIn_cons hu hlaunch))
        ⟨hd, hq, hreach'⟩
      rw [ingestEdges_clk_r, renderEdges_clk_r, Nat.add_comm _ 1, ← Nat.add_assoc]
      exact ⟨t, feed_cons_eq_next.2 ⟨_, hu, ht⟩, hrest⟩

/-- After three clk_r edges the request before a waiting publish has been acknowledged, and at the third clk_i edge
after that at the latest the publish is launched. -/
theorem launchesIn_of_edges {la lb : List Input} {s : State} (h : running s) (hd : s.pub_dirty = true)
    (hla : noReset la = true) (hlb : noReset lb = true) (ha : 3 ≤ renderEdges la) (hb : 3 ≤ ingestEdges lb) :
    launchesIn s.pub_req (la ++ lb) s := by
  by_contra hno
  have hs : publishWaits s.pub_req (min (1 + 0) 4) s := ⟨hd, rfl, one_le_requestReach⟩
  obtain ⟨t, ht, hrun, hd', hq, hreach⟩ := feed_publishWaits (n := fun _ r => min (1 + r) 4) (i := 0)
    (fun _ hm => hm.trans (le_reachAfterIngest _)) min_le_reachAfterRender h hla
    (fun hlaunch => hno (launchesIn_append_left hlaunch)) hs
  have hs' : publishWaits s.pub_req (4 + 0) t := ⟨hd', hq, by omega⟩
  obtain ⟨u, hu, -, -, -, hreach'⟩ := feed_publishWaits (n := fun i _ => 4 + i) (r := 0)
    (succ_le_reachAfterIngest (Nat.le_add_right 4 _)) (fun hm => hm.trans (le_reachAfterRender _)) hrun hlb
    (fun hlaunch => hno (launchesIn_append_right ht hlaunch)) hs'
  have hle : publishReach u ≤ 6 := requestReach_le _
  omega

/-- Settles O60: the publish is launched in the first two parts of the run, and the launch is copied in time. -/
theorem everyPublishIsLaunchedAndCopiedInTime : Obligations.EveryPublishIsLaunchedAndCopiedInTime := by
  intro s la lb l h hri hrr hd hl ha hb hn
  simp only [noReset_append, Bool.and_eq_true] at hl
  obtain ⟨⟨hla, hlb⟩, hl⟩ := hl
  obtain ⟨before, after, v, w, launch, hsplit, hbefore, hlaunch, hreq⟩ :=
    launchesIn_of_edges ⟨h, hri, hrr⟩ hd hla hlb ha hb
  have hnr : noReset (la ++ lb) = true := by rw [noReset_append, hla, hlb]; rfl
  rw [hsplit, noReset_append, Bool.and_eq_true, noReset_cons] at hnr
  obtain ⟨hnr, -, hnr'⟩ := hnr
  obtain ⟨hdl, hstill⟩ := (pubLaunches_iff launch).1 hlaunch
  obtain ⟨-, hcfg⟩ := feed_runsI_and_cfg hri hnr hbefore
  have hrun : running launch := feed_running ⟨h, hri, hrr⟩ hnr hbefore
  rw [← hcfg] at hn ⊢
  exact ⟨before, after, v, w, launch, hsplit, hbefore, hdl, hreq, hstill,
    copiedInTime_of_launch hrun hlaunch (by rw [noReset_append, hnr', hl]; rfl) (by rw [renderEdges_append]; omega)⟩

end Sys2Proof.Machine
end
